-- ==== Sys2Proof/Word.lean ====
section
/-! DEFINITION. The word types of the core and their plainest arithmetic.
`00_scope.md` R9 (bit numbering, unsigned values), R10 (operators) and R6, R8 (widths). -/

namespace Sys2Proof

/-- A 16-bit value: a register, a block, a key (R8, R14 "Word"). -/
abbrev Word := BitVec 16

/-- A 4-bit value, an element of GF(2^4) (R14 "Nibble"). -/
abbrev Nibble := BitVec 4

/-- A register address, 0x0–0xF (R50). -/
abbrev RegAddr := BitVec 4

/-- A host transaction record (`30_encoding.md` R88). -/
abbrev TxnWord := BitVec 24

/-- `zext_16(v)` of R9. -/
def zext16 (n : Nibble) : Word := n.setWidth 16

end Sys2Proof
end

