-- ==== Sys2Proof/Config.lean ====
section
/-! DEFINITION. What is fixed when the hardware is built: `00_scope.md` R7, `70_reset_and_hazards.md` R302.
CMD_LATENCY, CORE_BASE and RESET_SIGNAL are read by no rule and are not here (log 11). -/

namespace Sys2Proof

/-- SBOX, the forward S-box table (`41_round_transforms.md` R130), indexed by the nibble it substitutes. Every nibble
stands in it exactly once (R132): sixteen entries with no repeat. A table that is not a permutation is no `SBox`
(log 6). -/
structure SBox where
  table : Vector Nibble 16
  perm  : table.toList.Nodup
  deriving DecidableEq, Repr

/-- The configuration (R302). It is plain data, so that one step function covers every build of the core (log 5). -/
structure Config where
  /-- SBOX, R7. -/
  sbox         : SBox
  /-- TRACE_ENABLED, R7. -/
  traceEnabled : Bool
  deriving DecidableEq, Repr

end Sys2Proof
end

