-- ==== Sys2Proof/Syntax.lean ====
section
/-! DEFINITION. The instructions: one constructor per row of `spec/opcode_table.json`
(`30_encoding.md` R82 for the commands, R88 for RD and WR). -/

namespace Sys2Proof

/-- The fourteen commands take no operands (R83: every operand is a fixed register). RD and WR carry the fields of
the transaction record. -/
inductive Instr where
  /-- NOP, R255. -/
  | nop
  /-- GFADD, R112. -/
  | gfadd
  /-- GFMUL, R114. -/
  | gfmul
  /-- SUBNIB, R134. -/
  | subnib
  /-- INVSUBNIB, R136. -/
  | invsubnib
  /-- SHIFTROWS, R138. -/
  | shiftrows
  /-- MIXCOL, R141. -/
  | mixcol
  /-- ADDRK, R144. -/
  | addrk
  /-- EXPANDKEY, R162. -/
  | expandkey
  /-- ENCRYPT, R186. -/
  | encrypt
  /-- DECRYPT, R188. -/
  | decrypt
  /-- CBCINIT, R211. -/
  | cbcinit
  /-- CBCENC, R212. -/
  | cbcenc
  /-- CBCDEC, R213. -/
  | cbcdec
  /-- RD, R250. -/
  | rd (addr : RegAddr)
  /-- WR, R251. -/
  | wr (addr : RegAddr) (data : Word)
  deriving DecidableEq, Repr

end Sys2Proof
end

