-- ==== Sys2Proof/WellFormed.lean ====
section
/-! DEFINITION. The checks the spec makes on what comes from outside the core: a command word (`30_encoding.md`
R84), a transaction word (R88), an S-box table (`41_round_transforms.md` R132).
An `Instr` itself has typed fields, and every value of them is an instruction of the spec (R50, R251), so it carries
no check of its own. -/

namespace Sys2Proof

/-- Every `Instr` is well formed: RD takes any 4-bit address and WR any 4-bit address and 16-bit value
(reserved addresses are defined errors, R54). -/
def Instr.wellFormed : Instr → Bool
  | .nop | .gfadd | .gfmul | .subnib | .invsubnib | .shiftrows | .mixcol | .addrk | .expandkey
  | .encrypt | .decrypt | .cbcinit | .cbcenc | .cbcdec | .rd _ | .wr _ _ => true

/-- A CMD value is legal when RSVD is zero and OP is neither 0xE nor 0xF (R84). -/
def legalCmdWord (v : Word) : Bool :=
  v.extractLsb' 4 12 == 0#12 && v.extractLsb' 0 4 != 0xE#4 && v.extractLsb' 0 4 != 0xF#4

/-- A 24-bit word is a transaction when Z is 000 and a read has DATA 0x0000 (R88). -/
def legalTxnWord (w : TxnWord) : Bool :=
  w.extractLsb' 20 3 == 0#3 && (w.getLsbD 23 || w.extractLsb' 0 16 == 0#16)

/-- A table may be SBOX when it is a permutation of 0..15 (R132). -/
def legalSBoxTable (t : Vector Nibble 16) : Bool := decide t.toList.Nodup

end Sys2Proof
end

