-- ==== Sys2Proof/Decode.lean ====
section
/-! DEFINITION. The decoder and the encoder, from `30_encoding.md` R80–R88.
There are two formats: the 16-bit command word (R81) and the 24-bit transaction record (R88). The hardware has no
bytes (`20_memory.md` R52), so both are read as integers with bit 0 least significant. -/

namespace Sys2Proof

/-- Why a word is refused, each by name. -/
inductive DecodeError where
  /-- A CMD value with RSVD nonzero or OP 0xE or 0xF (R84). -/
  | illegalCommand
  /-- A transaction word with Z nonzero (R88). -/
  | reservedBitsSet
  /-- A read with DATA nonzero (R88). -/
  | readWithData
  deriving DecidableEq, Repr

/-- The commands of R82, in opcode order: what `decodeCmd` of R85 answers. -/
inductive Command where
  | nop | gfadd | gfmul | subnib | invsubnib | shiftrows | mixcol | addrk | expandkey
  | encrypt | decrypt | cbcinit | cbcenc | cbcdec
  deriving DecidableEq, Repr

/-- An encoded instruction in one of the two formats (R80). -/
inductive Encoding where
  | cmd16 (v : Word)
  | txn24 (w : TxnWord)
  deriving DecidableEq, Repr

/-- The instruction that is the command `c`. -/
def Command.toInstr : Command → Instr
  | .nop => .nop | .gfadd => .gfadd | .gfmul => .gfmul | .subnib => .subnib | .invsubnib => .invsubnib
  | .shiftrows => .shiftrows | .mixcol => .mixcol | .addrk => .addrk | .expandkey => .expandkey
  | .encrypt => .encrypt | .decrypt => .decrypt | .cbcinit => .cbcinit | .cbcenc => .cbcenc
  | .cbcdec => .cbcdec

/-- `CMD[3:0]` = OP (R81). -/
def opField (v : Word) : BitVec 4 := v.extractLsb' 0 4

/-- `CMD[15:4]` = RSVD (R81). -/
def rsvdField (v : Word) : BitVec 12 := v.extractLsb' 4 12

/-- The opcode map of R82; 0xE and 0xF have no command. -/
def commandOfOpcode (op : BitVec 4) : Option Command :=
  match op.toNat with
  | 0x0 => some .nop
  | 0x1 => some .gfadd
  | 0x2 => some .gfmul
  | 0x3 => some .subnib
  | 0x4 => some .invsubnib
  | 0x5 => some .shiftrows
  | 0x6 => some .mixcol
  | 0x7 => some .addrk
  | 0x8 => some .expandkey
  | 0x9 => some .encrypt
  | 0xA => some .decrypt
  | 0xB => some .cbcinit
  | 0xC => some .cbcenc
  | 0xD => some .cbcdec
  | _ => none

/-- `decodeCmd` of R85, total on the 65536 values. -/
def decodeCmd (v : Word) : Except DecodeError Command :=
  if rsvdField v = 0#12 then
    match commandOfOpcode (opField v) with
    | some c => .ok c
    | none => .error .illegalCommand
  else .error .illegalCommand

/-- W, bit 23 of a transaction word (R88): a write. -/
def txnIsWrite (w : TxnWord) : Bool := w.getLsbD 23

/-- Z, bits 22:20 (R88). -/
def txnReserved (w : TxnWord) : BitVec 3 := w.extractLsb' 20 3

/-- ADDR, bits 19:16 (R88). -/
def txnAddr (w : TxnWord) : RegAddr := w.extractLsb' 16 4

/-- DATA, bits 15:0 (R88). -/
def txnData (w : TxnWord) : Word := w.extractLsb' 0 16

/-- The transaction a 24-bit record stands for, or the reason it is none (R88). DESIGN CHOICE: Z is tested first, so a
word that is wrong in both ways is named `reservedBitsSet` (log 18). -/
def decodeTxn (w : TxnWord) : Except DecodeError Instr :=
  if txnReserved w = 0#3 then
    if txnIsWrite w then .ok (.wr (txnAddr w) (txnData w))
    else if txnData w = 0#16 then .ok (.rd (txnAddr w))
    else .error .readWithData
  else .error .reservedBitsSet

/-- The decoder over both formats. -/
def decode : Encoding → Except DecodeError Instr
  | .cmd16 v =>
    match decodeCmd v with
    | .ok c => .ok c.toInstr
    | .error e => .error e
  | .txn24 w => decodeTxn w

/-- OP of each command (R82). -/
def Command.opcode : Command → BitVec 4
  | .nop => 0x0#4
  | .gfadd => 0x1#4
  | .gfmul => 0x2#4
  | .subnib => 0x3#4
  | .invsubnib => 0x4#4
  | .shiftrows => 0x5#4
  | .mixcol => 0x6#4
  | .addrk => 0x7#4
  | .expandkey => 0x8#4
  | .encrypt => 0x9#4
  | .decrypt => 0xA#4
  | .cbcinit => 0xB#4
  | .cbcenc => 0xC#4
  | .cbcdec => 0xD#4

/-- The command word: RSVD zero, then OP (R81). -/
def encodeCmd (c : Command) : Word := 0#12 ++ c.opcode

/-- `{1'b0, 3'b000, addr, 16'h0000}` (`45_host_access.md` R250). -/
def encodeRead (addr : RegAddr) : TxnWord := 0#1 ++ 0#3 ++ addr ++ 0#16

/-- `{1'b1, 3'b000, addr, v}` (`45_host_access.md` R251). -/
def encodeWrite (addr : RegAddr) (v : Word) : TxnWord := 1#1 ++ 0#3 ++ addr ++ v

/-- The word of an instruction in its row's format. -/
def encode : Instr → Encoding
  | .nop => .cmd16 (encodeCmd .nop)
  | .gfadd => .cmd16 (encodeCmd .gfadd)
  | .gfmul => .cmd16 (encodeCmd .gfmul)
  | .subnib => .cmd16 (encodeCmd .subnib)
  | .invsubnib => .cmd16 (encodeCmd .invsubnib)
  | .shiftrows => .cmd16 (encodeCmd .shiftrows)
  | .mixcol => .cmd16 (encodeCmd .mixcol)
  | .addrk => .cmd16 (encodeCmd .addrk)
  | .expandkey => .cmd16 (encodeCmd .expandkey)
  | .encrypt => .cmd16 (encodeCmd .encrypt)
  | .decrypt => .cmd16 (encodeCmd .decrypt)
  | .cbcinit => .cmd16 (encodeCmd .cbcinit)
  | .cbcenc => .cmd16 (encodeCmd .cbcenc)
  | .cbcdec => .cmd16 (encodeCmd .cbcdec)
  | .rd addr => .txn24 (encodeRead addr)
  | .wr addr data => .txn24 (encodeWrite addr data)

/-- The transaction word that issues an encoded instruction: a command word is issued as `wr CMD, word`
(`cmd X` of R91; `issued_as` of the opcode table), a transaction word is itself. -/
def issueWord : Encoding → TxnWord
  | .cmd16 v => encodeWrite 0x0#4 v
  | .txn24 w => w

/-- The encoded word of an opcode-table row given as its number of bits and its value: 16 bits for format CMD16 and
24 for TXN24, and no other length exists (R53, R86). -/
def encodingOfBits (nbits w : Nat) : Option Encoding :=
  if nbits = 16 ∧ w < 2 ^ 16 then some (.cmd16 (BitVec.ofNat 16 w))
  else if nbits = 24 ∧ w < 2 ^ 24 then some (.txn24 (BitVec.ofNat 24 w))
  else none

/-- What the decoder reads from an opcode-table word. -/
def decodeTableWord (nbits w : Nat) : Option Instr :=
  match encodingOfBits nbits w with
  | none => none
  | some e =>
    match decode e with
    | .ok i => some i
    | .error _ => none

end Sys2Proof
end

