-- ==== Sys2Proof/Machine/SBox.lean ====
section
/-! DEFINITION. The S-box and its inverse (`41_round_transforms.md` R130–R132) and the default configuration
(`00_scope.md` R7). -/

namespace Sys2Proof.Machine

/-- The default table of R130. PRESUMED for the entries of 2, 4, 6, 7, 8, A, B and D (I5, log 4): the source's known
vector pins the other eight. -/
def defaultSBoxTable : Vector Nibble 16 :=
  #v[0xE, 0x4, 0xD, 0x1, 0x2, 0xF, 0xB, 0x8, 0x3, 0xA, 0x6, 0xC, 0x5, 0x9, 0x0, 0x7]

/-- The default S-box (R130); it is a permutation (R132). -/
def defaultSBox : SBox := ⟨defaultSBoxTable, by decide⟩

/-- An S-box from a table, refusing one that is not a permutation (R132, I5). -/
def sboxOfTable (t : Vector Nibble 16) : Option SBox :=
  if h : t.toList.Nodup then some ⟨t, h⟩ else none

/-- `S(x)` (R130). -/
def sboxForward (sb : SBox) (x : Nibble) : Nibble := sb.table[x.toNat]'x.isLt

/-- The nibbles in order. -/
def allNibbles : List Nibble := (List.range 16).map (BitVec.ofNat 4)

/-- `Sinv(y)`: the x with `S(x) = y` (R131). There is exactly one, so the default of the search is never reached. -/
def sboxInverse (sb : SBox) (y : Nibble) : Nibble :=
  (allNibbles.find? fun x => sboxForward sb x == y).getD 0

/-- The defaults of R7: the table of R130, no trace. -/
def defaultConfig : Config := { sbox := defaultSBox, traceEnabled := false }

end Sys2Proof.Machine
end

