-- ==== Sys2Proof/Machine/State.lean ====
section
/-! DEFINITION. The state of the core (`10_state.md` R22–R38), the state after reset (`70_reset_and_hazards.md`
R300), and the ways a step can stop. -/

namespace Sys2Proof.Machine

/-- The eleven host-visible registers (R22). -/
inductive Reg where
  | cmd | status | a | b | key | iv | chain | result | rk0 | rk1 | rk2
  deriving DecidableEq, Repr

/-- The errors the hardware records (`60_exceptions.md` R270). Codes 4–15 are never recorded. -/
inductive ErrorCode where
  | illegalCmd | badAddr | roWrite
  deriving DecidableEq, Repr

/-- The step labels of the cipher engine's trace (`43_cipher.md` R180, R183, R190). -/
inductive StepLabel where
  | ark0 | sn1 | sr1 | mc1 | ark1 | sn2 | sr2 | ark2 | isr2 | isn2 | imc1 | isr1 | isn1
  deriving DecidableEq, Repr

/-- A trace record "(step name, resulting state)" (R190). -/
structure TraceRecord where
  name  : StepLabel
  value : Word
  deriving DecidableEq, Repr

/-- What reaches the core from outside: a bus transaction (`30_encoding.md` R88) or the platform's reset signal
(R300). -/
inductive HostInput where
  | txn (word : TxnWord)
  | reset
  deriving DecidableEq, Repr

/-- The architectural tuple of R38, the model state of R33 and R36, and what a run holds (R90). -/
structure State where
  /-- CMD, R23. -/
  cmd       : Word
  /-- STATUS as it is stored; a host reads it through `readReg`, which hard-wires BUSY and the reserved bits (R24, log 12). -/
  status    : Word
  /-- A, R25. -/
  a         : Word
  /-- B, R26. -/
  b         : Word
  /-- KEY, R27. -/
  key       : Word
  /-- IV, R28. -/
  iv        : Word
  /-- CHAIN, R29. -/
  chain     : Word
  /-- RESULT, R30. -/
  result    : Word
  /-- RK0, R32. -/
  rk0       : Word
  /-- RK1, R32. -/
  rk1       : Word
  /-- RK2, R32. -/
  rk2       : Word
  /-- Written flag of A, R33. -/
  wA        : Bool
  /-- Written flag of B, R33. -/
  wB        : Bool
  /-- Written flag of KEY, R33. -/
  wKEY      : Bool
  /-- Written flag of RESULT, R33. -/
  wRESULT   : Bool
  /-- Written flag of RK0–RK2, R33. -/
  wRK       : Bool
  /-- Trace log, oldest record first, R36. -/
  trace     : List TraceRecord
  /-- Read responses, oldest first, R90 (log 8). -/
  responses : List Word
  /-- The model's own: host inputs not yet performed, next one first (R90, log 7). -/
  inbox     : List HostInput
  /-- The model's own: the build-time configuration, which no step changes (R302, log 5). -/
  config    : Config
  deriving DecidableEq, Repr

/-- The state of R300. A, B, KEY, RESULT and RK0–RK2 are unspecified there. DESIGN CHOICE: they hold zero (log 1). -/
def State.reset : State where
  cmd       := 0x0000#16
  status    := 0x0000#16
  a         := 0x0000#16
  b         := 0x0000#16
  key       := 0x0000#16
  iv        := 0xFFFF#16
  chain     := 0xFFFF#16
  result    := 0x0000#16
  rk0       := 0x0000#16
  rk1       := 0x0000#16
  rk2       := 0x0000#16
  wA        := false
  wB        := false
  wKEY      := false
  wRESULT   := false
  wRK       := false
  trace     := []
  responses := []
  inbox     := []
  config    := defaultConfig

/-- The one fault. -/
inductive Fault where
  /-- `fault UnwrittenRead(X)` of R33: X was read before its first write. Raised by `checkedExec` and `checkedStep`
  alone, never by `exec` or `step` (log 2). Safe: the hardware goes on with an unspecified value. -/
  | unwrittenRead (r : Reg)
  deriving DecidableEq, Repr

/-- Why a step is refused. -/
inductive Refusal where
  /-- An instruction that has no meaning yet, by its mnemonic. No arm of `exec` is left in it. Safe. -/
  | notModelled (mnemonic : String)
  /-- The next host input is a 24-bit word that is not a transaction (R88). Raised by `step` before any instruction
  runs. Safe: the host cannot put such a word on the bus (log 9). -/
  | notATransaction (why : DecodeError)
  deriving DecidableEq, Repr

/-- The outcome of one step of this core. -/
abbrev StepResult := Host.Outcome State Fault Refusal

end Sys2Proof.Machine
end

