-- ==== Sys2Proof/Machine/Flags.lean ====
section
/-! DEFINITION. STATUS and the written flags. The core has no condition codes and no arithmetic flags (`10_state.md`
R34): STATUS.ERR and STATUS.ECODE (R24, `60_exceptions.md` R271) and the written flags (R33) are all its flags. -/

namespace Sys2Proof.Machine

/-- The codes of R270. -/
def errorCodeBits : ErrorCode → BitVec 4
  | .illegalCmd => 1#4
  | .badAddr => 2#4
  | .roWrite => 3#4

/-- `{8'h00, code[3:0], 2'b00, 1'b1, 1'b0}` (R271). -/
def statusOfError (e : ErrorCode) : Word := 0x00#8 ++ errorCodeBits e ++ 0#2 ++ 1#1 ++ 0#1

/-- STATUS.ERR, bit 1 (R24). -/
def statusErr (status : Word) : Bool := status.getLsbD 1

/-- STATUS.ECODE, bits 7:4 (R24). -/
def statusEcode (status : Word) : BitVec 4 := status.extractLsb' 4 4

/-- STATUS as the host reads it: BUSY and the reserved bits are hard-wired zero (R24). -/
def statusReadback (status : Word) : Word :=
  0x00#8 ++ statusEcode status ++ 0#2 ++ BitVec.ofBool (statusErr status) ++ 0#1

/-- STATUS after `raise Error(e)`: the first error wins (R271). -/
def recordError (e : ErrorCode) (status : Word) : Word :=
  if statusErr status then status else statusOfError e

/-- The register's written flag, or true for a register whose reset value is defined (R33: CMD, STATUS, IV and CHAIN
never fault). -/
def writtenFlag (r : Reg) (s : State) : Bool :=
  match r with
  | .a => s.wA
  | .b => s.wB
  | .key => s.wKEY
  | .result => s.wRESULT
  | .rk0 | .rk1 | .rk2 => s.wRK
  | .cmd | .status | .iv | .chain => true

end Sys2Proof.Machine
end

