-- ==== Sys2Proof/Machine/Operands.lean ====
section
/-! DEFINITION. Operand forms: the nibble operand, and the State operand of four nibbles (`10_state.md` R20,
`30_encoding.md` R83). -/

namespace Sys2Proof.Machine

/-- A State of the cipher, `[s00, s10, s01, s11]`: a 2×2 matrix in column-major order (R20). -/
structure Block where
  s00 : Nibble
  s10 : Nibble
  s01 : Nibble
  s11 : Nibble
  deriving DecidableEq, Repr

/-- `toState(w)` (R20). -/
def toBlock (w : Word) : Block where
  s00 := w.extractLsb' 12 4
  s10 := w.extractLsb' 8 4
  s01 := w.extractLsb' 4 4
  s11 := w.extractLsb' 0 4

/-- `fromState(s)` (R20). -/
def fromBlock (s : Block) : Word := s.s00 ++ s.s10 ++ s.s01 ++ s.s11

/-- A nibble operand `reg[X][3:0]`; bits 15:4 are ignored (R83). -/
def nibbleOperand (w : Word) : Nibble := w.extractLsb' 0 4

end Sys2Proof.Machine
end

