-- ==== Sys2Proof/Machine/Ops.lean ====
section
/-! DEFINITION. The named operations on registers: the address map, reads, writes, error recording and reset.
The core takes no exceptions and returns from none (`60_exceptions.md` R278, R279): `raiseError` is all that an error
does. -/

namespace Sys2Proof.Machine

/-- The register at an address; 0xB–0xF are reserved (`10_state.md` R22). -/
def regAt (addr : RegAddr) : Option Reg :=
  match addr.toNat with
  | 0x0 => some .cmd
  | 0x1 => some .status
  | 0x2 => some .a
  | 0x3 => some .b
  | 0x4 => some .key
  | 0x5 => some .iv
  | 0x6 => some .chain
  | 0x7 => some .result
  | 0x8 => some .rk0
  | 0x9 => some .rk1
  | 0xA => some .rk2
  | _ => none

/-- The address of a register (R22). -/
def regAddr : Reg → RegAddr
  | .cmd => 0x0#4
  | .status => 0x1#4
  | .a => 0x2#4
  | .b => 0x3#4
  | .key => 0x4#4
  | .iv => 0x5#4
  | .chain => 0x6#4
  | .result => 0x7#4
  | .rk0 => 0x8#4
  | .rk1 => 0x9#4
  | .rk2 => 0xA#4

/-- `reg[X]` as a host reads it (`00_scope.md` R11). -/
def readReg (r : Reg) (s : State) : Word :=
  match r with
  | .cmd => s.cmd
  | .status => statusReadback s.status
  | .a => s.a
  | .b => s.b
  | .key => s.key
  | .iv => s.iv
  | .chain => s.chain
  | .result => s.result
  | .rk0 => s.rk0
  | .rk1 => s.rk1
  | .rk2 => s.rk2

/-- `raise Error(e)` (`60_exceptions.md` R271). -/
def raiseError (e : ErrorCode) (s : State) : State := { s with status := recordError e s.status }

/-- `reg[CMD] <- v`: all 16 bits are stored (R23, `45_host_access.md` R253). -/
def storeCmd (v : Word) (s : State) : State := { s with cmd := v }

/-- A host write of A (`45_host_access.md` R251). -/
def writeA (v : Word) (s : State) : State := { s with a := v, wA := true }

/-- A host write of B (R251). -/
def writeB (v : Word) (s : State) : State := { s with b := v, wB := true }

/-- A host write of KEY (R251). -/
def writeKey (v : Word) (s : State) : State := { s with key := v, wKEY := true }

/-- A host write of IV (R251). -/
def writeIv (v : Word) (s : State) : State := { s with iv := v }

/-- A command's write of RESULT (`10_state.md` R30, R33). -/
def writeResult (v : Word) (s : State) : State := { s with result := v, wRESULT := true }

/-- A command's write of CHAIN (R29). -/
def writeChain (v : Word) (s : State) : State := { s with chain := v }

/-- EXPANDKEY's write of the round key file (R32, R33). -/
def writeRoundKeys (k0 k1 k2 : Word) (s : State) : State :=
  { s with rk0 := k0, rk1 := k1, rk2 := k2, wRK := true }

/-- Appends trace records when TRACE_ENABLED holds, and nothing otherwise (R36, `43_cipher.md` R190). -/
def emitTrace (rs : List TraceRecord) (s : State) : State :=
  { s with trace := if s.config.traceEnabled then s.trace ++ rs else s.trace }

/-- Records the response of a read transaction (`30_encoding.md` R88, R90). -/
def respond (v : Word) (s : State) : State := { s with responses := s.responses ++ [v] }

/-- The effect of the reset signal (`70_reset_and_hazards.md` R300). The configuration is not changed (R302); what the
host has already received and what it will do next are the host's and stay (log 8). -/
def resetCore (s : State) : State :=
  { State.reset with config := s.config, inbox := s.inbox, responses := s.responses }

end Sys2Proof.Machine
end

