-- ==== Sys2Proof/Machine/Field.lean ====
section
/-! DEFINITION. Field arithmetic over GF(2^4) modulo x^4+x+1 and the commands GFADD and GFMUL (`40_field.md`). -/

namespace Sys2Proof.Machine

/-- `gadd(a, b)` (R110). -/
def gadd (a b : Nibble) : Nibble := a ^^^ b

/-- The variables of the multiplication procedure of R111. -/
structure GmulVars where
  p : Nibble
  a : Nibble
  b : Nibble
  deriving DecidableEq, Repr

/-- FIELD_POLY, `x^4+x+1` (R6, R111). -/
def fieldPoly : BitVec 5 := 0b10011#5

/-- One pass of the loop of R111: `a << 1` is a 5-bit intermediate, reduced when the pre-shift high bit was set and
masked to 4 bits. -/
def gmulPass (t : GmulVars) : GmulVars :=
  let p := if t.b.getLsbD 0 then t.p ^^^ t.a else t.p
  let hi := t.a.getLsbD 3
  let shifted : BitVec 5 := t.a.setWidth 5 <<< 1
  let reduced := if hi then shifted ^^^ fieldPoly else shifted
  { p := p, a := reduced.setWidth 4, b := t.b >>> 1 }

/-- `gmul(a, b)`: four passes (R111). -/
def gmul (a b : Nibble) : Nibble :=
  (gmulPass (gmulPass (gmulPass (gmulPass { p := 0, a := a, b := b })))).p

/-- GFADD's pseudocode (R112). -/
def doGfadd (s : State) : State :=
  writeResult (zext16 (gadd (nibbleOperand s.a) (nibbleOperand s.b))) s

/-- GFMUL's pseudocode (R114). -/
def doGfmul (s : State) : State :=
  writeResult (zext16 (gmul (nibbleOperand s.a) (nibbleOperand s.b))) s

/-- GFADD, issued as a write of 0x0001 to CMD (R112). -/
def execGfadd (s : State) : StepResult := .next (doGfadd (storeCmd (encodeCmd .gfadd) s))

/-- GFMUL, issued as a write of 0x0002 to CMD (R114). -/
def execGfmul (s : State) : StepResult := .next (doGfmul (storeCmd (encodeCmd .gfmul) s))

end Sys2Proof.Machine
end

