-- ==== Sys2Proof/Machine/Transforms.lean ====
section
/-! DEFINITION. The round transforms and their commands SUBNIB, INVSUBNIB, SHIFTROWS, MIXCOL and ADDRK
(`41_round_transforms.md`). -/

namespace Sys2Proof.Machine

/-- `subNibbles(s)` (R133). -/
def subNibbles (sb : SBox) (s : Block) : Block where
  s00 := sboxForward sb s.s00
  s10 := sboxForward sb s.s10
  s01 := sboxForward sb s.s01
  s11 := sboxForward sb s.s11

/-- `invSubNibbles(s)` (R133, R135). -/
def invSubNibbles (sb : SBox) (s : Block) : Block where
  s00 := sboxInverse sb s.s00
  s10 := sboxInverse sb s.s10
  s01 := sboxInverse sb s.s01
  s11 := sboxInverse sb s.s11

/-- `shiftRows(s)`: swaps the two nibbles of row 1 (R137); it is InvShiftRows too (R139). -/
def shiftRows (s : Block) : Block where
  s00 := s.s00
  s10 := s.s11
  s01 := s.s01
  s11 := s.s10

/-- `mixColumns(s)`: each column `(x, y)` becomes `(3x ⊕ 2y, 2x ⊕ 3y)` (R140); it is InvMixColumns too (R142). -/
def mixColumns (s : Block) : Block where
  s00 := gadd (gmul 3 s.s00) (gmul 2 s.s10)
  s10 := gadd (gmul 2 s.s00) (gmul 3 s.s10)
  s01 := gadd (gmul 3 s.s01) (gmul 2 s.s11)
  s11 := gadd (gmul 2 s.s01) (gmul 3 s.s11)

/-- `addRoundKey(s, k)` (R143). -/
def addRoundKey (s k : Block) : Block where
  s00 := gadd s.s00 k.s00
  s10 := gadd s.s10 k.s10
  s01 := gadd s.s01 k.s01
  s11 := gadd s.s11 k.s11

/-- SUBNIB's pseudocode (R134). -/
def doSubnib (s : State) : State :=
  writeResult (fromBlock (subNibbles s.config.sbox (toBlock s.a))) s

/-- INVSUBNIB's pseudocode (R136). -/
def doInvsubnib (s : State) : State :=
  writeResult (fromBlock (invSubNibbles s.config.sbox (toBlock s.a))) s

/-- SHIFTROWS's pseudocode (R138). -/
def doShiftrows (s : State) : State := writeResult (fromBlock (shiftRows (toBlock s.a))) s

/-- MIXCOL's pseudocode (R141). -/
def doMixcol (s : State) : State := writeResult (fromBlock (mixColumns (toBlock s.a))) s

/-- ADDRK's pseudocode (R144). The key comes from B. -/
def doAddrk (s : State) : State :=
  writeResult (fromBlock (addRoundKey (toBlock s.a) (toBlock s.b))) s

/-- SUBNIB, issued as a write of 0x0003 to CMD (R134). -/
def execSubnib (s : State) : StepResult := .next (doSubnib (storeCmd (encodeCmd .subnib) s))

/-- INVSUBNIB, issued as a write of 0x0004 to CMD (R136). -/
def execInvsubnib (s : State) : StepResult := .next (doInvsubnib (storeCmd (encodeCmd .invsubnib) s))

/-- SHIFTROWS, issued as a write of 0x0005 to CMD (R138). -/
def execShiftrows (s : State) : StepResult := .next (doShiftrows (storeCmd (encodeCmd .shiftrows) s))

/-- MIXCOL, issued as a write of 0x0006 to CMD (R141). -/
def execMixcol (s : State) : StepResult := .next (doMixcol (storeCmd (encodeCmd .mixcol) s))

/-- ADDRK, issued as a write of 0x0007 to CMD (R144). -/
def execAddrk (s : State) : StepResult := .next (doAddrk (storeCmd (encodeCmd .addrk) s))

end Sys2Proof.Machine
end

