-- ==== Sys2Proof/Machine/KeySchedule.lean ====
section
/-! DEFINITION. The key schedule and EXPANDKEY (`42_key_schedule.md`). -/

namespace Sys2Proof.Machine

/-- RCON1 (R160). -/
def rcon1 : Nibble := 1

/-- RCON2 (R160). -/
def rcon2 : Nibble := 2

/-- The three round keys (R161). -/
structure RoundKeys where
  k0 : Word
  k1 : Word
  k2 : Word
  deriving DecidableEq, Repr

/-- `expandKey(k)` (R161); the key nibbles keep the spec's names. -/
def expandKey (sb : SBox) (k : Word) : RoundKeys :=
  let w0 := (toBlock k).s00
  let w1 := (toBlock k).s10
  let w2 := (toBlock k).s01
  let w3 := (toBlock k).s11
  let w4 := gadd (gadd w0 (sboxForward sb w3)) rcon1
  let w5 := gadd w1 w4
  let w6 := gadd w2 w5
  let w7 := gadd w3 w6
  let w8 := gadd (gadd w4 (sboxForward sb w7)) rcon2
  let w9 := gadd w5 w8
  let w10 := gadd w6 w9
  let w11 := gadd w7 w10
  { k0 := fromBlock ⟨w0, w1, w2, w3⟩
    k1 := fromBlock ⟨w4, w5, w6, w7⟩
    k2 := fromBlock ⟨w8, w9, w10, w11⟩ }

/-- EXPANDKEY's pseudocode (R162). -/
def doExpandkey (s : State) : State :=
  let ks := expandKey s.config.sbox s.key
  writeRoundKeys ks.k0 ks.k1 ks.k2 s

/-- EXPANDKEY, issued as a write of 0x0008 to CMD (R162). -/
def execExpandkey (s : State) : StepResult := .next (doExpandkey (storeCmd (encodeCmd .expandkey) s))

end Sys2Proof.Machine
end

