-- ==== Sys2Proof/Machine/Cipher.lean ====
section
/-! DEFINITION. The cipher engine and the commands ENCRYPT and DECRYPT (`43_cipher.md`). -/

namespace Sys2Proof.Machine

/-- What one run of the engine gives: its output block and its eight trace records (R180, R183, R190). -/
structure EngineRun where
  output  : Word
  records : List TraceRecord
  deriving DecidableEq, Repr

/-- The encrypt sequence (R180): an initial key addition and two transform rounds (R182). -/
def encryptRun (sb : SBox) (p k : Word) : EngineRun :=
  let ks := expandKey sb k
  let ark0 := addRoundKey (toBlock p) (toBlock ks.k0)
  let sn1 := subNibbles sb ark0
  let sr1 := shiftRows sn1
  let mc1 := mixColumns sr1
  let ark1 := addRoundKey mc1 (toBlock ks.k1)
  let sn2 := subNibbles sb ark1
  let sr2 := shiftRows sn2
  let ark2 := addRoundKey sr2 (toBlock ks.k2)
  { output := fromBlock ark2
    records :=
      [⟨.ark0, fromBlock ark0⟩, ⟨.sn1, fromBlock sn1⟩, ⟨.sr1, fromBlock sr1⟩, ⟨.mc1, fromBlock mc1⟩,
       ⟨.ark1, fromBlock ark1⟩, ⟨.sn2, fromBlock sn2⟩, ⟨.sr2, fromBlock sr2⟩, ⟨.ark2, fromBlock ark2⟩] }

/-- The decrypt sequence, in the document's order (R183, R184). -/
def decryptRun (sb : SBox) (c k : Word) : EngineRun :=
  let ks := expandKey sb k
  let ark2 := addRoundKey (toBlock c) (toBlock ks.k2)
  let isr2 := shiftRows ark2
  let isn2 := invSubNibbles sb isr2
  let ark1 := addRoundKey isn2 (toBlock ks.k1)
  let imc1 := mixColumns ark1
  let isr1 := shiftRows imc1
  let isn1 := invSubNibbles sb isr1
  let ark0 := addRoundKey isn1 (toBlock ks.k0)
  { output := fromBlock ark0
    records :=
      [⟨.ark2, fromBlock ark2⟩, ⟨.isr2, fromBlock isr2⟩, ⟨.isn2, fromBlock isn2⟩, ⟨.ark1, fromBlock ark1⟩,
       ⟨.imc1, fromBlock imc1⟩, ⟨.isr1, fromBlock isr1⟩, ⟨.isn1, fromBlock isn1⟩, ⟨.ark0, fromBlock ark0⟩] }

/-- `encrypt(p, k)` (R180). -/
def encryptBlock (sb : SBox) (p k : Word) : Word := (encryptRun sb p k).output

/-- `decrypt(c, k)` (R183). -/
def decryptBlock (sb : SBox) (c k : Word) : Word := (decryptRun sb c k).output

/-- ENCRYPT's pseudocode (R186); its trace records by R190. -/
def doEncrypt (s : State) : State :=
  let r := encryptRun s.config.sbox s.a s.key
  writeResult r.output (emitTrace r.records s)

/-- DECRYPT's pseudocode (R188); its trace records by R190. -/
def doDecrypt (s : State) : State :=
  let r := decryptRun s.config.sbox s.a s.key
  writeResult r.output (emitTrace r.records s)

/-- ENCRYPT, issued as a write of 0x0009 to CMD (R186). -/
def execEncrypt (s : State) : StepResult := .next (doEncrypt (storeCmd (encodeCmd .encrypt) s))

/-- DECRYPT, issued as a write of 0x000A to CMD (R188). -/
def execDecrypt (s : State) : StepResult := .next (doDecrypt (storeCmd (encodeCmd .decrypt) s))

end Sys2Proof.Machine
end

