-- ==== Sys2Proof/Machine/Modes.lean ====
section
/-! DEFINITION. The mode controller's commands CBCINIT, CBCENC and CBCDEC (`44_modes.md` R210–R213). ECB is ENCRYPT
and DECRYPT (R210). -/

namespace Sys2Proof.Machine

/-- CBCINIT's pseudocode (R211). -/
def doCbcinit (s : State) : State := writeChain s.iv s

/-- CBCENC's pseudocode (R212): the engine's input is `A ^ CHAIN` (R190). -/
def doCbcenc (s : State) : State :=
  let r := encryptRun s.config.sbox (s.a ^^^ s.chain) s.key
  writeChain r.output (writeResult r.output (emitTrace r.records s))

/-- CBCDEC's pseudocode (R213): CHAIN is read before it is written and takes the consumed ciphertext; the records are
those of the decrypt of A, before the XOR (R190). -/
def doCbcdec (s : State) : State :=
  let r := decryptRun s.config.sbox s.a s.key
  writeChain s.a (writeResult (r.output ^^^ s.chain) (emitTrace r.records s))

/-- CBCINIT, issued as a write of 0x000B to CMD (R211). -/
def execCbcinit (s : State) : StepResult := .next (doCbcinit (storeCmd (encodeCmd .cbcinit) s))

/-- CBCENC, issued as a write of 0x000C to CMD (R212). -/
def execCbcenc (s : State) : StepResult := .next (doCbcenc (storeCmd (encodeCmd .cbcenc) s))

/-- CBCDEC, issued as a write of 0x000D to CMD (R213). -/
def execCbcdec (s : State) : StepResult := .next (doCbcdec (storeCmd (encodeCmd .cbcdec) s))

end Sys2Proof.Machine
end

