-- ==== Sys2Proof/Machine/HostAccess.lean ====
section
/-! DEFINITION. Host access: NOP, command dispatch, RD and WR (`45_host_access.md`). -/

namespace Sys2Proof.Machine

/-- NOP's pseudocode: nothing beyond the CMD store (R255). -/
def doNop (s : State) : State := s

/-- NOP, issued as a write of 0x0000 to CMD (R255). -/
def execNop (s : State) : StepResult := .next (doNop (storeCmd (encodeCmd .nop) s))

/-- The case table of `performCmd` (R253). -/
def doCommand (c : Command) (s : State) : State :=
  match c with
  | .nop => doNop s
  | .gfadd => doGfadd s
  | .gfmul => doGfmul s
  | .subnib => doSubnib s
  | .invsubnib => doInvsubnib s
  | .shiftrows => doShiftrows s
  | .mixcol => doMixcol s
  | .addrk => doAddrk s
  | .expandkey => doExpandkey s
  | .encrypt => doEncrypt s
  | .decrypt => doDecrypt s
  | .cbcinit => doCbcinit s
  | .cbcenc => doCbcenc s
  | .cbcdec => doCbcdec s

/-- `performCmd(v)`: every written value is stored in CMD; an illegal one records ILLEGAL_CMD and does nothing else
(R253, `30_encoding.md` R84). -/
def performCmd (v : Word) (s : State) : State :=
  match decodeCmd v with
  | .ok c => doCommand c (storeCmd v s)
  | .error _ => raiseError .illegalCmd (storeCmd v s)

/-- `BusRead(addr)` (R250): the response is recorded; a reserved address records BAD_ADDR (`20_memory.md` R54). -/
def busRead (addr : RegAddr) (s : State) : State :=
  match regAt addr with
  | none => respond 0x0000#16 (raiseError .badAddr s)
  | some r => respond (readReg r s) s

/-- `BusWrite(addr, v)` (R251). -/
def busWrite (addr : RegAddr) (v : Word) (s : State) : State :=
  match regAt addr with
  | none => raiseError .badAddr s
  | some .cmd => performCmd v s
  | some .a => writeA v s
  | some .b => writeB v s
  | some .key => writeKey v s
  | some .iv => writeIv v s
  | some .status | some .chain | some .result | some .rk0 | some .rk1 | some .rk2 => raiseError .roWrite s

/-- RD (R250). -/
def execRd (addr : RegAddr) (s : State) : StepResult := .next (busRead addr s)

/-- WR (R251). -/
def execWr (addr : RegAddr) (data : Word) (s : State) : StepResult := .next (busWrite addr data s)

end Sys2Proof.Machine
end

