-- ==== Sys2Proof/Machine/Dispatch.lean ====
section
/-! DEFINITION. The dispatch of an instruction to its meaning, one arm per row of `spec/opcode_table.json`. -/

namespace Sys2Proof.Machine

def exec (i : Instr) (s : State) : Host.Outcome State Fault Refusal :=
  match i with
  | .nop => Sys2Proof.Machine.execNop s
  | .gfadd => Sys2Proof.Machine.execGfadd s
  | .gfmul => Sys2Proof.Machine.execGfmul s
  | .subnib => Sys2Proof.Machine.execSubnib s
  | .invsubnib => Sys2Proof.Machine.execInvsubnib s
  | .shiftrows => Sys2Proof.Machine.execShiftrows s
  | .mixcol => Sys2Proof.Machine.execMixcol s
  | .addrk => Sys2Proof.Machine.execAddrk s
  | .expandkey => Sys2Proof.Machine.execExpandkey s
  | .encrypt => Sys2Proof.Machine.execEncrypt s
  | .decrypt => Sys2Proof.Machine.execDecrypt s
  | .cbcinit => Sys2Proof.Machine.execCbcinit s
  | .cbcenc => Sys2Proof.Machine.execCbcenc s
  | .cbcdec => Sys2Proof.Machine.execCbcdec s
  | .rd addr => Sys2Proof.Machine.execRd addr s
  | .wr addr data => Sys2Proof.Machine.execWr addr data s

end Sys2Proof.Machine
end

