-- ==== Sys2Proof/Machine/Inputs.lean ====
section
/-! DEFINITION. The host's inputs: taking the next one and placing one (log 7). The core fetches nothing
(`20_memory.md` R64): what it performs next is what the host sends next. -/

namespace Sys2Proof.Machine

/-- The state in which exactly the inputs `rest` are still to come. -/
def withInbox (rest : List HostInput) (s : State) : State := { s with inbox := rest }

/-- The state in which `x` is the host's next input, before the ones it already had. -/
def sendNext (x : HostInput) (s : State) : State := { s with inbox := x :: s.inbox }

/-- The state in which the host goes on, after what it already had, with the transactions `ws` (R90). -/
def sendScript (ws : List TxnWord) (s : State) : State :=
  { s with inbox := s.inbox ++ ws.map HostInput.txn }

/-- The bus word that issues an opcode-table word, where the table has that length. -/
def txnOfBits (nbits w : Nat) : Option TxnWord := (encodingOfBits nbits w).map issueWord

end Sys2Proof.Machine
end

