-- ==== Sys2Proof/Machine/Step.lean ====
section
/-! DEFINITION. The step: one host transaction is one step of the core (`45_host_access.md` R252). -/

namespace Sys2Proof.Machine

/-- With no transaction the core idles and holds every register (`60_exceptions.md` R285). The reset signal is one
step that sets the state of R300. A transaction word is decoded (R88) and performed; a word that is no transaction is
refused by name (log 9). -/
def step (s : State) : Host.Outcome State Fault Refusal :=
  match s.inbox with
  | [] => .next s
  | .reset :: rest => .next (resetCore (withInbox rest s))
  | .txn w :: rest =>
    match decodeTxn w with
    | .ok i => exec i (withInbox rest s)
    | .error e => .refused (.notATransaction e)

/-- `s` with the instruction of an opcode-table word as the host's next input: a command word is sent as the write of
that word to CMD, a transaction word as itself (log 10). -/
def State.withFetchWord (s : State) (nbits w : Nat) : State :=
  match txnOfBits nbits w with
  | some t => sendNext (.txn t) s
  | none => s

end Sys2Proof.Machine
end

