-- ==== Sys2Proof/Machine/Written.lean ====
section
/-! DEFINITION. The spec's model outcome `fault UnwrittenRead(X)` (`10_state.md` R33), kept beside `exec` and `step`,
which go on with the value the register holds (log 2). -/

namespace Sys2Proof.Machine

/-- The registers with a written flag that a command reads, in the order they are looked at (`30_encoding.md` R83,
R33; order: log 3). -/
def commandOperands : Command → List Reg
  | .nop | .cbcinit => []
  | .gfadd | .gfmul | .addrk => [.a, .b]
  | .subnib | .invsubnib | .shiftrows | .mixcol => [.a]
  | .expandkey => [.key]
  | .encrypt | .decrypt | .cbcenc | .cbcdec => [.a, .key]

/-- The registers an instruction reads. A host write to CMD reads what the command it performs reads; an illegal
command and any other write read none. -/
def operandRegs : Instr → List Reg
  | .nop => commandOperands .nop
  | .gfadd => commandOperands .gfadd
  | .gfmul => commandOperands .gfmul
  | .subnib => commandOperands .subnib
  | .invsubnib => commandOperands .invsubnib
  | .shiftrows => commandOperands .shiftrows
  | .mixcol => commandOperands .mixcol
  | .addrk => commandOperands .addrk
  | .expandkey => commandOperands .expandkey
  | .encrypt => commandOperands .encrypt
  | .decrypt => commandOperands .decrypt
  | .cbcinit => commandOperands .cbcinit
  | .cbcenc => commandOperands .cbcenc
  | .cbcdec => commandOperands .cbcdec
  | .rd addr => (regAt addr).toList
  | .wr addr data =>
    match regAt addr, decodeCmd data with
    | some .cmd, .ok c => commandOperands c
    | _, _ => []

/-- The first register the instruction would read while its written flag is clear. -/
def unwrittenOperand (i : Instr) (s : State) : Option Reg :=
  (operandRegs i).find? fun r => !writtenFlag r s

/-- `exec` with the fault of R33. -/
def checkedExec (i : Instr) (s : State) : StepResult :=
  match unwrittenOperand i s with
  | some r => .fault (.unwrittenRead r)
  | none => exec i s

/-- `step` with the fault of R33. -/
def checkedStep (s : State) : StepResult :=
  match s.inbox with
  | .txn w :: rest =>
    match decodeTxn w with
    | .ok i => checkedExec i (withInbox rest s)
    | .error _ => step s
  | _ => step s

end Sys2Proof.Machine
end

