-- ==== Sys2Proof/Machine/Program.lean ====
section
/-! DEFINITION. Programs: finite lists of transactions performed in list order (`30_encoding.md` R90,
`20_memory.md` R61), and runs of the core. Each comes twice: with `exec` and `step`, and with the fault of R33
(`10_state.md`) kept once it is taken (`45_host_access.md` R252). -/

namespace Sys2Proof.Machine

/-- Goes on from a next state. A fault or a refusal is kept: nothing runs after it (R252). -/
def andThen (o : StepResult) (rest : State → StepResult) : StepResult :=
  match o with
  | .next t => rest t
  | .fault r => .fault r
  | .refused r => .refused r

/-- Performs the instructions in order, stopping at the first that gives no next state. -/
def runInstrs : List Instr → State → StepResult
  | [], s => .next s
  | i :: is, s => andThen (exec i s) (runInstrs is)

/-- `n` steps of the core. -/
def runSteps : Nat → State → StepResult
  | 0, s => .next s
  | n + 1, s => andThen (step s) (runSteps n)

/-- A program under the fault of R33: it ends in `fault UnwrittenRead(X)` at the first instruction that reads a register
never written, and the rest of it is not performed (R252). -/
def checkedRunInstrs : List Instr → State → StepResult
  | [], s => .next s
  | i :: is, s => andThen (checkedExec i s) (checkedRunInstrs is)

/-- `n` steps under the fault of R33: a faulted run has no further steps (R252). -/
def checkedRunSteps : Nat → State → StepResult
  | 0, s => .next s
  | n + 1, s => andThen (checkedStep s) (checkedRunSteps n)

/-- The transaction word that issues an instruction (R88, R91). -/
def txnOfInstr (i : Instr) : TxnWord := issueWord (encode i)

end Sys2Proof.Machine
end

