-- ==== Sys2Proof/Machine/Driver.lean ====
section
/-! DEFINITION. The host driver: message framing for the chaining layer (`44_modes.md` R230–R244). It is host
software, not hardware; it acts on the core by transactions alone. Messages are lists of characters. -/

namespace Sys2Proof.Machine

/-- The driver's errors (`60_exceptions.md` R274). They never reach the core (R244). -/
inductive DriverError where
  | formatError
  | rangeError
  deriving DecidableEq, Repr

/-- The chaining modes (R230). -/
inductive Mode where
  | ecb | cbc
  deriving DecidableEq, Repr

/-- A key argument: a hex string (R231) or a number (R233). -/
inductive KeyArg where
  | hex (digits : List Char)
  | number (value : Int)
  deriving DecidableEq, Repr

/-- What the driver returns when it succeeds: the output message and the core it leaves behind. -/
structure DriverDone where
  output : List Char
  core   : State
  deriving DecidableEq, Repr

/-- A hex digit: 0–9, A–F, a–f (R231). -/
def hexDigit (c : Char) : Option Nibble :=
  let n := c.toNat
  if 48 ≤ n ∧ n ≤ 57 then some (BitVec.ofNat 4 (n - 48))
  else if 65 ≤ n ∧ n ≤ 70 then some (BitVec.ofNat 4 (n - 55))
  else if 97 ≤ n ∧ n ≤ 102 then some (BitVec.ofNat 4 (n - 87))
  else none

/-- The digits of a hex string, or none when a character is no hex digit. -/
def hexDigits : List Char → Option (List Nibble)
  | [] => some []
  | c :: cs =>
    match hexDigit c, hexDigits cs with
    | some d, some ds => some (d :: ds)
    | _, _ => none

/-- A block or key string: exactly 4 hex digits, the first in bits 15:12 (R231). -/
def parseBlock (cs : List Char) : Except DriverError Word :=
  match hexDigits cs with
  | some [a, b, c, d] => .ok (fromBlock ⟨a, b, c, d⟩)
  | _ => .error .formatError

/-- One uppercase hex digit (R232). -/
def upperHexDigit (n : Nibble) : Char :=
  Char.ofNat (if n.toNat < 10 then 48 + n.toNat else 55 + n.toNat)

/-- `encode(State) -> hex4` (R232). -/
def encodeHex (w : Word) : List Char :=
  [upperHexDigit (toBlock w).s00, upperHexDigit (toBlock w).s10, upperHexDigit (toBlock w).s01,
   upperHexDigit (toBlock w).s11]

/-- The output message: the result blocks in block order (R232). -/
def encodeMessage (ws : List Word) : List Char := ws.flatMap encodeHex

/-- Splitting into 4-digit blocks, the last one padded with zero digits at its low end (R234). -/
def frameDigits : List Nibble → List Word
  | [] => []
  | [a] => [fromBlock ⟨a, 0, 0, 0⟩]
  | [a, b] => [fromBlock ⟨a, b, 0, 0⟩]
  | [a, b, c] => [fromBlock ⟨a, b, c, 0⟩]
  | a :: b :: c :: d :: rest => fromBlock ⟨a, b, c, d⟩ :: frameDigits rest

/-- The blocks of a hex message; a non-hex character is a FormatError (R231, R234). -/
def parseMessage (cs : List Char) : Except DriverError (List Word) :=
  match hexDigits cs with
  | some ds => .ok (frameDigits ds)
  | none => .error .formatError

/-- The key: a hex string (R231), or a number in 0x0000–0xFFFF (R233). -/
def parseKey : KeyArg → Except DriverError Word
  | .hex cs => parseBlock cs
  | .number n => if 0 ≤ n ∧ n < 2 ^ 16 then .ok (BitVec.ofInt 16 n) else .error .rangeError

/-- The mode argument, exactly `ECB` or `CBC` (R240; log 14). -/
def parseMode (cs : List Char) : Except DriverError Mode :=
  if cs = ['E', 'C', 'B'] then .ok .ecb
  else if cs = ['C', 'B', 'C'] then .ok .cbc
  else .error .formatError

/-- DEFAULT_IV (`00_scope.md` R6). -/
def defaultIv : Int := 0xFFFF

/-- The IV: default 0xFFFF, and a RangeError outside 0x0000–0xFFFF (R233), in both modes (log 13). -/
def parseIv (iv : Option Int) : Except DriverError Word :=
  if 0 ≤ iv.getD defaultIv ∧ iv.getD defaultIv < 2 ^ 16 then .ok (BitVec.ofInt 16 (iv.getD defaultIv))
  else .error .rangeError

/-- `wr <reg>, v`. -/
def wrReg (r : Reg) (v : Word) : Instr := .wr (regAddr r) v

/-- `rd <reg>`. -/
def rdReg (r : Reg) : Instr := .rd (regAddr r)

/-- `cmd X`, which is `wr CMD, OP(X)` (`30_encoding.md` R91). -/
def cmdTxn (c : Command) : Instr := wrReg .cmd (encodeCmd c)

/-- `wr A, b; cmd X; rd RESULT`. -/
def blockScript (c : Command) (b : Word) : List Instr := [wrReg .a b, cmdTxn c, rdReg .result]

/-- The ECB procedure, blocks in message order (R236; log 15). -/
def ecbScript (c : Command) (key : Word) (blocks : List Word) : List Instr :=
  wrReg .key key :: blocks.flatMap (blockScript c)

/-- The CBC procedures (R237, R238). -/
def cbcScript (c : Command) (key iv : Word) (blocks : List Word) : List Instr :=
  wrReg .key key :: wrReg .iv iv :: cmdTxn .cbcinit :: blocks.flatMap (blockScript c)

/-- The transactions of a message in a direction: `ecbCmd` in ECB mode, `cbcCmd` in CBC mode. -/
def modeScript (ecbCmd cbcCmd : Command) (m : Mode) (key iv : Word) (blocks : List Word) : List Instr :=
  match m with
  | .ecb => ecbScript ecbCmd key blocks
  | .cbc => cbcScript cbcCmd key iv blocks

/-- Issues a script and returns the encoded responses it brought, after the whole of it is done (R241). -/
def driveScript (is : List Instr) (s : State) : Host.Outcome DriverDone Fault Refusal :=
  match runInstrs is s with
  | .next t => .next { output := encodeMessage (t.responses.drop s.responses.length), core := t }
  | .fault r => .fault r
  | .refused r => .refused r

/-- The arguments are checked before any transaction is issued (R231, R233, R240), in the order they are given
(log 13); then the script runs. -/
def driveMode (ecbCmd cbcCmd : Command) (msg : List Char) (key : KeyArg) (mode : List Char) (iv : Option Int)
    (s : State) : Except DriverError (Host.Outcome DriverDone Fault Refusal) :=
  match parseMessage msg with
  | .error e => .error e
  | .ok blocks =>
    match parseKey key with
    | .error e => .error e
    | .ok k =>
      match parseMode mode with
      | .error e => .error e
      | .ok m =>
        match parseIv iv with
        | .error e => .error e
        | .ok v => .ok (driveScript (modeScript ecbCmd cbcCmd m k v blocks) s)

/-- `encryptMode(hexMessage, hexKey, mode, iv)` (R230) on the core `s`. -/
def encryptMode (msg : List Char) (key : KeyArg) (mode : List Char) (iv : Option Int) (s : State) :
    Except DriverError (Host.Outcome DriverDone Fault Refusal) :=
  driveMode .encrypt .cbcenc msg key mode iv s

/-- `decryptMode(hexMessage, hexKey, mode, iv)` (R230) on the core `s`. Padding is kept (R239). -/
def decryptMode (msg : List Char) (key : KeyArg) (mode : List Char) (iv : Option Int) (s : State) :
    Except DriverError (Host.Outcome DriverDone Fault Refusal) :=
  driveMode .decrypt .cbcdec msg key mode iv s

end Sys2Proof.Machine
end

