-- ==== Sys2Proof/Machine/Script.lean ====
section
/-! DEFINITION. The syntax of host scripts and the pseudo-instructions (`30_encoding.md` R89, R91). It is notation, not
hardware. What R89 leaves open about characters is in log 16. -/

namespace Sys2Proof.Machine

/-- Why a script line is refused. -/
inductive ScriptError where
  | unknownStatement | unknownRegister | badValue | unknownMnemonic
  deriving DecidableEq, Repr

/-- A line that issues a transaction: the transaction, and for `rd <reg> => <value>` the value the rules give. -/
structure ScriptLine where
  instr    : Instr
  expected : Option Word
  deriving DecidableEq, Repr

/-- Lower case of a letter A–Z, for names that are case-insensitive (R89). -/
def lowerChar (c : Char) : Char :=
  if 65 ≤ c.toNat ∧ c.toNat ≤ 90 then Char.ofNat (c.toNat + 32) else c

/-- Blanks between the parts of a line. -/
def isBlank (c : Char) : Bool := c == ' ' || c == '\t' || c == '\r'

/-- Puts a finished word in front of the tokens, unless it is empty. -/
def flushWord (word : List Char) (ts : List (List Char)) : List (List Char) :=
  if word.isEmpty then ts else word :: ts

/-- The tokens of a line: words, and commas on their own. DESIGN CHOICE: a comma needs no blank beside it, and `=>` is
a token only between blanks (log 16). -/
def tokensFrom (word : List Char) : List Char → List (List Char)
  | [] => flushWord word []
  | c :: cs =>
    if isBlank c then flushWord word (tokensFrom [] cs)
    else if c = ',' then flushWord word ([','] :: tokensFrom [] cs)
    else tokensFrom (word ++ [c]) cs

/-- The tokens of a line without its comment (R89: comments start with `;`). -/
def lineTokens (line : List Char) : List (List Char) := tokensFrom [] (line.takeWhile (· != ';'))

/-- The register names of R89, in lower case. -/
def regNames : List (List Char × Reg) :=
  [(['c', 'm', 'd'], .cmd), (['s', 't', 'a', 't', 'u', 's'], .status), (['a'], .a), (['b'], .b),
   (['k', 'e', 'y'], .key), (['i', 'v'], .iv), (['c', 'h', 'a', 'i', 'n'], .chain),
   (['r', 'e', 's', 'u', 'l', 't'], .result), (['r', 'k', '0'], .rk0), (['r', 'k', '1'], .rk1),
   (['r', 'k', '2'], .rk2)]

/-- `<reg>`: a register name, or a number 0x0–0xF (R89). -/
def parseReg (t : List Char) : Except ScriptError RegAddr :=
  match regNames.lookup (t.map lowerChar) with
  | some r => .ok (regAddr r)
  | none =>
    match t with
    | ['0', 'x', d] =>
      match hexDigit d with
      | some n => .ok n
      | none => .error .unknownRegister
    | _ => .error .unknownRegister

/-- The value of a digit string in a base, most significant digit first. -/
def digitsValue (base : Nat) (ds : List Nibble) : Nat :=
  ds.foldl (fun acc d => acc * base + d.toNat) 0

/-- A decimal number 0–65535 (R89). DESIGN CHOICE: leading zeros are accepted (log 16). -/
def parseDecimal (t : List Char) : Except ScriptError Word :=
  match hexDigits t with
  | some ds =>
    if t ≠ [] ∧ ds.all (fun d => decide (d.toNat < 10)) ∧ digitsValue 10 ds < 2 ^ 16
    then .ok (BitVec.ofNat 16 (digitsValue 10 ds))
    else .error .badValue
  | none => .error .badValue

/-- `<value>`: `0x` and 1–4 hex digits, or a bare 4-digit hex block, or a decimal number (R89). A bare token of four
hex digits is a block, also when its digits are decimal ones (log 16). -/
def parseValue (t : List Char) : Except ScriptError Word :=
  match t with
  | '0' :: 'x' :: ds =>
    match hexDigits ds with
    | some ns =>
      if 1 ≤ ns.length ∧ ns.length ≤ 4 then .ok (BitVec.ofNat 16 (digitsValue 16 ns)) else .error .badValue
    | none => .error .badValue
  | _ =>
    match parseBlock t with
    | .ok w => .ok w
    | .error _ => parseDecimal t

/-- The base mnemonic a disassembler prints (R91). -/
def commandName : Command → List Char
  | .nop => ['N', 'O', 'P']
  | .gfadd => ['G', 'F', 'A', 'D', 'D']
  | .gfmul => ['G', 'F', 'M', 'U', 'L']
  | .subnib => ['S', 'U', 'B', 'N', 'I', 'B']
  | .invsubnib => ['I', 'N', 'V', 'S', 'U', 'B', 'N', 'I', 'B']
  | .shiftrows => ['S', 'H', 'I', 'F', 'T', 'R', 'O', 'W', 'S']
  | .mixcol => ['M', 'I', 'X', 'C', 'O', 'L']
  | .addrk => ['A', 'D', 'D', 'R', 'K']
  | .expandkey => ['E', 'X', 'P', 'A', 'N', 'D', 'K', 'E', 'Y']
  | .encrypt => ['E', 'N', 'C', 'R', 'Y', 'P', 'T']
  | .decrypt => ['D', 'E', 'C', 'R', 'Y', 'P', 'T']
  | .cbcinit => ['C', 'B', 'C', 'I', 'N', 'I', 'T']
  | .cbcenc => ['C', 'B', 'C', 'E', 'N', 'C']
  | .cbcdec => ['C', 'B', 'C', 'D', 'E', 'C']

/-- The commands in opcode order (R82). -/
def allCommands : List Command :=
  [.nop, .gfadd, .gfmul, .subnib, .invsubnib, .shiftrows, .mixcol, .addrk, .expandkey, .encrypt, .decrypt,
   .cbcinit, .cbcenc, .cbcdec]

/-- The aliases of R91, in lower case, with the command each one expands to. -/
def aliasNames : List (List Char × Command) :=
  [(['i', 'n', 'v', 's', 'h', 'i', 'f', 't', 'r', 'o', 'w', 's'], .shiftrows),
   (['i', 'n', 'v', 'm', 'i', 'x', 'c', 'o', 'l'], .mixcol),
   (['e', 'c', 'b', 'e', 'n', 'c'], .encrypt),
   (['e', 'c', 'b', 'd', 'e', 'c'], .decrypt),
   (['g', 'f', 'x', 'o', 'r'], .gfadd)]

/-- `<MNEMONIC>` of `cmd`: a command or an alias, case-insensitive (R89, R91). -/
def parseMnemonic (t : List Char) : Except ScriptError Command :=
  match (allCommands.map fun c => ((commandName c).map lowerChar, c)).lookup (t.map lowerChar),
        aliasNames.lookup (t.map lowerChar) with
  | some c, _ => .ok c
  | none, some c => .ok c
  | none, none => .error .unknownMnemonic

/-- `wr <reg>, <value>` (R89). -/
def parseWrite (r v : List Char) : Except ScriptError ScriptLine :=
  match parseReg r, parseValue v with
  | .ok a, .ok w => .ok { instr := .wr a w, expected := none }
  | .error e, _ => .error e
  | .ok _, .error e => .error e

/-- `rd <reg>` and `rd <reg> => <value>` (R89). -/
def parseRead (r : List Char) (v : Option (List Char)) : Except ScriptError ScriptLine :=
  match parseReg r, v.map parseValue with
  | .ok a, none => .ok { instr := .rd a, expected := none }
  | .ok a, some (.ok w) => .ok { instr := .rd a, expected := some w }
  | .error e, _ => .error e
  | .ok _, some (.error e) => .error e

/-- `cmd <MNEMONIC>`, the pseudo-instruction `wr CMD, <opcode>` (R89, R91). -/
def parseCmd (t : List Char) : Except ScriptError ScriptLine :=
  match parseMnemonic t with
  | .ok c => .ok { instr := cmdTxn c, expected := none }
  | .error e => .error e

/-- One line of a script: a transaction (R89). DESIGN CHOICE: a line that is blank or only a comment is accepted and is
no transaction (log 16). -/
def parseLine (line : List Char) : Except ScriptError (Option ScriptLine) :=
  match lineTokens line with
  | [] => .ok none
  | k :: rest =>
    match k.map lowerChar, rest with
    | ['w', 'r'], [r, [','], v] => (parseWrite r v).map some
    | ['r', 'd'], [r] => (parseRead r none).map some
    | ['r', 'd'], [r, ['=', '>'], v] => (parseRead r (some v)).map some
    | ['c', 'm', 'd'], [t] => (parseCmd t).map some
    | _, _ => .error .unknownStatement

/-- A script's lines in order (R89, R90). DESIGN CHOICE: lines with no transaction are left out, and the first line that
is refused refuses the whole script (log 16). -/
def parseScript : List (List Char) → Except ScriptError (List ScriptLine)
  | [] => .ok []
  | l :: ls =>
    match parseLine l, parseScript ls with
    | .ok (some x), .ok xs => .ok (x :: xs)
    | .ok none, .ok xs => .ok xs
    | .error e, _ => .error e
    | .ok _, .error e => .error e

end Sys2Proof.Machine
end

