-- ==== Sys2Proof/Safety.lean ====
section
/-! DEFINITION. What counts as a safe run, in the terms the statements use. -/

namespace Sys2Proof.Safety

open Sys2Proof.Machine

/-- The legal values of STATUS (`10_state.md` R24). -/
def legalStatus (status : Word) : Prop :=
  status = 0x0000#16 ∨ status = 0x0012#16 ∨ status = 0x0022#16 ∨ status = 0x0032#16

/-- RK0–RK2 are the expansion of one key (R32, R312), once EXPANDKEY has run. -/
def roundKeysCoherent (s : State) : Prop :=
  s.wRK = true → expandKey s.config.sbox s.rk0 = { k0 := s.rk0, k1 := s.rk1, k2 := s.rk2 }

/-- With TRACE_ENABLED false the trace log stays empty; with it true each cipher command has put eight records there
(R36, `43_cipher.md` R190). -/
def traceCoherent (s : State) : Prop :=
  (s.config.traceEnabled = false → s.trace = []) ∧ s.trace.length % 8 = 0

/-- CMD holds an illegal value only after ILLEGAL_CMD was raised, and then some error is recorded (R253, R271). -/
def illegalCmdRecorded (s : State) : Prop :=
  legalCmdWord s.cmd = false → statusErr s.status = true

/-- The invariant of the core. -/
def coreInvariant (s : State) : Prop :=
  legalStatus s.status ∧ roundKeysCoherent s ∧ traceCoherent s ∧ illegalCmdRecorded s

/-- No error has been recorded (`60_exceptions.md` R275: "STATUS.ERR = 0 at the end"). -/
def errorFree (s : State) : Prop := statusErr s.status = false

/-- The instruction reads no register that was never written (R33, R303). -/
def operandsWritten (i : Instr) (s : State) : Prop := unwrittenOperand i s = none

/-- Every register of `rs` was written: the instruction runs as `exec` says. Some register of `rs` was not: the outcome
is `fault UnwrittenRead(X)` for one that was not (R33). -/
def faultsUnlessWritten (i : Instr) (rs : List Reg) (s : State) : Prop :=
  ((∀ r ∈ rs, writtenFlag r s = true) → checkedExec i s = exec i s) ∧
  ((∃ r ∈ rs, writtenFlag r s = false) →
    ∃ r ∈ rs, writtenFlag r s = false ∧ checkedExec i s = .fault (.unwrittenRead r))

/-- RESULT after the command `c` on the operands `a` and `b` in the core `s`. -/
def resultOf (c : Command) (a b : Word) (s : State) : Word :=
  match exec c.toInstr { s with a := a, b := b } with
  | .next t => t.result
  | _ => s.result

/-- Two outcomes of the same sort, with next states related by `R`. -/
def outcomesRelated (R : State → State → Prop) : StepResult → StepResult → Prop
  | .next s, .next t => R s t
  | .fault x, .fault y => x = y
  | .refused x, .refused y => x = y
  | _, _ => False

/-- The states differ at most in the values of registers whose written flag is clear (R33). -/
def sameButUnwritten (s t : State) : Prop :=
  { t with a := s.a, b := s.b, key := s.key, result := s.result, rk0 := s.rk0, rk1 := s.rk1, rk2 := s.rk2 } = s ∧
  (s.wA = true → t.a = s.a) ∧ (s.wB = true → t.b = s.b) ∧ (s.wKEY = true → t.key = s.key) ∧
  (s.wRESULT = true → t.result = s.result) ∧
  (s.wRK = true → t.rk0 = s.rk0 ∧ t.rk1 = s.rk1 ∧ t.rk2 = s.rk2)

/-- The states differ at most in the trace log and in TRACE_ENABLED (`43_cipher.md` R191). -/
def sameButTrace (s t : State) : Prop :=
  { t with trace := s.trace, config := { t.config with traceEnabled := s.config.traceEnabled } } = s

/-- The carry-less product of two polynomials over GF(2) of degree at most 7, kept below degree 8. -/
def polyMul (a b : BitVec 8) : BitVec 8 :=
  (List.range 8).foldl (fun acc i => if b.getLsbD i then acc ^^^ (a <<< i) else acc) 0#8

/-- `r` is `a · b` modulo `x^4+x+1`: the product is a multiple of the polynomial plus `r` (`40_field.md` R111). -/
def isProductMod (a b r : Nibble) : Prop :=
  ∃ q : BitVec 3, polyMul (a.setWidth 8) (b.setWidth 8) = polyMul (q.setWidth 8) 0b10011#8 ^^^ r.setWidth 8

/-- `x · 2` as R118 gives it. -/
def doubled (x : Nibble) : Nibble := (x <<< 1) ^^^ (if x.getLsbD 3 then 0x3#4 else 0x0#4)

/-- `x · 3` as R118 gives it. -/
def tripled (x : Nibble) : Nibble := doubled x ^^^ x

/-- The nibbles of a word, most significant first (R20). -/
def nibblesOf (w : Word) : List Nibble :=
  [w.extractLsb' 12 4, w.extractLsb' 8 4, w.extractLsb' 4 4, w.extractLsb' 0 4]

/-- The driver's arguments are valid (R231, R233, R240): hex digits in the message, a 4-digit or 16-bit key, a mode, a
16-bit IV; with the values they stand for. -/
def validCall (msg : List Char) (key : KeyArg) (mode : List Char) (iv : Option Int)
    (ds : List Nibble) (k : Word) (m : Mode) (v : Word) : Prop :=
  hexDigits msg = some ds ∧ parseKey key = .ok k ∧ parseMode mode = .ok m ∧ parseIv iv = .ok v

/-- The instruction performs the command `c`: it is its row, or the host write of its word to CMD (R91, R253). -/
def performs (i : Instr) (c : Command) : Prop := i = c.toInstr ∨ i = .wr 0x0#4 (encodeCmd c)

end Sys2Proof.Safety
end

