-- ==== Sys2Proof/Certificates/Slice0/Obligations.lean ====
section
/-! DEFINITION. The statements for the provers. Each docstring names the rule of `spec/` it formalises. -/

open Sys2Proof Sys2Proof.Machine Sys2Proof.Safety

/-! ## Encoding -/

/-- Decoding the encoding of an instruction gives it back, with every operand at every value (R81, R82, R88). -/
def Obligations.DecodeOfEncode : Prop :=
  ∀ i : Instr, i.wellFormed = true → decode (encode i) = .ok i

/-- Each word has one meaning: what a word decodes to encodes to that word. -/
def Obligations.EncodeOfDecode : Prop :=
  ∀ (e : Encoding) (i : Instr), decode e = .ok i → encode i = e

/-- R85: a CMD value is the command of its opcode when `v[15:4] = 0` and `v[3:0] ≤ 0xD`, and illegal otherwise. -/
def Obligations.CommandDecodingIsTotal : Prop :=
  ∀ v : Word,
    (v.extractLsb' 4 12 = 0#12 ∧ (v.extractLsb' 0 4).toNat ≤ 0xD →
      ∃ c : Command, decodeCmd v = .ok c ∧ c.opcode = v.extractLsb' 0 4) ∧
    (¬(v.extractLsb' 4 12 = 0#12 ∧ (v.extractLsb' 0 4).toNat ≤ 0xD) → decodeCmd v = .error .illegalCommand)

/-- R88: the transaction record. A word with Z nonzero, or a read with DATA nonzero, is refused by name. Which name a
word has that is wrong in both ways is the model's choice, log 18. -/
def Obligations.TransactionRecordDecoding : Prop :=
  ∀ (w : TxnWord) (addr : RegAddr) (v : Word),
    (decodeTxn w = .ok (.wr addr v) ↔ w = 1#1 ++ 0#3 ++ addr ++ v) ∧
    (decodeTxn w = .ok (.rd addr) ↔ w = 0#1 ++ 0#3 ++ addr ++ 0#16) ∧
    (decodeTxn w = .error .reservedBitsSet ↔ w.extractLsb' 20 3 ≠ 0#3) ∧
    (decodeTxn w = .error .readWithData ↔
      w.extractLsb' 20 3 = 0#3 ∧ w.getLsbD 23 = false ∧ w.extractLsb' 0 16 ≠ 0#16)

/-- Words of `30_encoding.md` R82 and R88 written out, and what they decode to. -/
def Obligations.SpecWordsDecodeAsWritten : Prop :=
  decode (.cmd16 0b0000000000000000#16) = .ok .nop ∧
  decode (.cmd16 0b0000000000000010#16) = .ok .gfmul ∧
  decode (.cmd16 0b0000000000000110#16) = .ok .mixcol ∧
  decode (.cmd16 0b0000000000001000#16) = .ok .expandkey ∧
  decode (.cmd16 0b0000000000001001#16) = .ok .encrypt ∧
  decode (.cmd16 0b0000000000001101#16) = .ok .cbcdec ∧
  decode (.cmd16 0b0000000000001110#16) = .error .illegalCommand ∧
  decode (.txn24 0x84C3F0#24) = .ok (.wr 0x4#4 0xC3F0#16) ∧
  decode (.txn24 0x070000#24) = .ok (.rd 0x7#4) ∧
  decode (.txn24 0x800009#24) = .ok (.wr 0x0#4 0x0009#16)

/-! ## The step -/

/-- One host transaction is one step (R252): the decoded transaction is performed on the state without that input, and
for a command's word that is the command. -/
def Obligations.StepPerformsTheDecodedInstruction : Prop :=
  ∀ (s : State) (w : TxnWord) (rest : List HostInput), s.inbox = .txn w :: rest →
    (∀ i : Instr, decodeTxn w = .ok i → step s = exec i { s with inbox := rest }) ∧
    (∀ i : Instr, w = txnOfInstr i → step s = exec i { s with inbox := rest }) ∧
    (∀ e : DecodeError, decodeTxn w = .error e → step s = .refused (.notATransaction e))

/-- With no input the core holds every register (R285, R301). The model's part of it, that such a step is a next state,
is log 7. -/
def Obligations.IdleStepHoldsEverything : Prop :=
  ∀ s : State, s.inbox = [] → step s = .next s

/-- R300: the reset signal is one step that sets the reset state. Of the registers R300 leaves unspecified it says that
their written flag is clear and that reading one of them is the fault of R33. -/
def Obligations.ResetSetsTheStateOfR300 : Prop :=
  ∀ (s : State) (rest : List HostInput), s.inbox = .reset :: rest →
    ∃ t : State, step s = .next t ∧
      t.cmd = 0x0000#16 ∧ t.status = 0x0000#16 ∧ t.iv = 0xFFFF#16 ∧ t.chain = 0xFFFF#16 ∧
      t.wA = false ∧ t.wB = false ∧ t.wKEY = false ∧ t.wRESULT = false ∧ t.wRK = false ∧ t.trace = [] ∧
      ∀ r ∈ [Reg.a, .b, .key, .result, .rk0, .rk1, .rk2],
        checkedExec (.rd (regAddr r)) t = .fault (.unwrittenRead r)

/-- R302: a reset does not change the configuration. The model's part of it is that the host's own lists stay too: the
inputs still to come (log 7) and the responses it has received (log 8). -/
def Obligations.ResetKeepsTheConfigurationAndTheHost : Prop :=
  ∀ (s : State) (rest : List HostInput), s.inbox = .reset :: rest →
    ∃ t : State, step s = .next t ∧ t.config = s.config ∧ t.inbox = rest ∧ t.responses = s.responses

/-- The state after reset, `State.reset`, has the values R300 gives, and of a register R300 leaves unspecified a read is
the fault of R33. -/
def Obligations.ResetStateHasTheSpecifiedValues : Prop :=
  readReg .cmd State.reset = 0x0000#16 ∧ readReg .status State.reset = 0x0000#16 ∧
  readReg .iv State.reset = 0xFFFF#16 ∧ readReg .chain State.reset = 0xFFFF#16 ∧
  (∀ r ∈ [Reg.a, .b, .key, .result, .rk0, .rk1, .rk2],
    writtenFlag r State.reset = false ∧ checkedExec (.rd (regAddr r)) State.reset = .fault (.unwrittenRead r)) ∧
  State.reset.trace = []

/-- A program sent as transaction words and performed step by step gives what performing its instructions in list order
gives (R61, R90). That it is sent by way of `inbox`, with `sendScript`, is the model's choice, log 7. -/
def Obligations.ScriptStepsAreTheProgramRun : Prop :=
  ∀ (is : List Instr) (s : State), s.inbox = [] →
    runSteps is.length (sendScript (is.map txnOfInstr) s) = runInstrs is s

/-- R253: a host write to CMD of a command's word performs that command. -/
def Obligations.CmdWritePerformsTheCommand : Prop :=
  ∀ (v : Word) (c : Command) (s : State), decodeCmd v = .ok c →
    exec (.wr 0x0#4 v) s = exec c.toInstr s ∧ ∃ t : State, exec (.wr 0x0#4 v) s = .next t ∧ t.cmd = v

/-! ## The commands, each with its encoding, its whole next state and its fault on an unwritten operand -/

/-- NOP, R255. -/
def Obligations.NopChangesOnlyCmd : Prop :=
  ∀ s : State,
    decode (.cmd16 0x0000#16) = .ok .nop ∧
    exec .nop s = .next { s with cmd := 0x0000#16 } ∧
    faultsUnlessWritten .nop [] s

/-- GFADD, R112. -/
def Obligations.GfaddAddsTheLowNibbles : Prop :=
  ∀ s : State,
    decode (.cmd16 0x0001#16) = .ok .gfadd ∧
    parseMnemonic ['G', 'F', 'X', 'O', 'R'] = .ok .gfadd ∧
    exec .gfadd s = .next { s with cmd := 0x0001#16, result := (s.a ^^^ s.b) &&& 0x000F#16, wRESULT := true } ∧
    faultsUnlessWritten .gfadd [.a, .b] s

/-- GFMUL, R114: RESULT is `gmul` of the low nibbles, which is their product modulo `x^4+x+1` (R111). -/
def Obligations.GfmulMultipliesModuloThePolynomial : Prop :=
  ∀ s : State,
    decode (.cmd16 0x0002#16) = .ok .gfmul ∧
    (∃ r : Nibble, isProductMod (s.a.extractLsb' 0 4) (s.b.extractLsb' 0 4) r ∧
      r = gmul (s.a.extractLsb' 0 4) (s.b.extractLsb' 0 4) ∧
      exec .gfmul s = .next { s with cmd := 0x0002#16, result := r.setWidth 16, wRESULT := true }) ∧
    faultsUnlessWritten .gfmul [.a, .b] s

/-- SUBNIB, R134, with R133: each nibble is replaced by its S-box entry. -/
def Obligations.SubnibSubstitutesEachNibble : Prop :=
  ∀ s : State,
    decode (.cmd16 0x0003#16) = .ok .subnib ∧
    (∃ t : State, exec .subnib s = .next t ∧
      t = { s with cmd := 0x0003#16, result := t.result, wRESULT := true } ∧
      nibblesOf t.result = (nibblesOf s.a).map (fun x => s.config.sbox.table[x.toNat])) ∧
    faultsUnlessWritten .subnib [.a] s

/-- INVSUBNIB, R136, with R131: each nibble is replaced by the one whose S-box entry it is. -/
def Obligations.InvsubnibUndoesTheSubstitution : Prop :=
  ∀ s : State,
    decode (.cmd16 0x0004#16) = .ok .invsubnib ∧
    (∃ t : State, exec .invsubnib s = .next t ∧
      t = { s with cmd := 0x0004#16, result := t.result, wRESULT := true } ∧
      (nibblesOf t.result).map (fun x => s.config.sbox.table[x.toNat]) = nibblesOf s.a) ∧
    faultsUnlessWritten .invsubnib [.a] s

/-- SHIFTROWS, R137 and R138: bits 11:8 and 3:0 of A change places. -/
def Obligations.ShiftrowsSwapsRowOne : Prop :=
  ∀ s : State,
    decode (.cmd16 0x0005#16) = .ok .shiftrows ∧
    parseMnemonic ['I', 'N', 'V', 'S', 'H', 'I', 'F', 'T', 'R', 'O', 'W', 'S'] = .ok .shiftrows ∧
    exec .shiftrows s = .next { s with
      cmd := 0x0005#16
      result := (s.a &&& 0xF0F0#16) ||| ((s.a &&& 0x0F00#16) >>> 8) ||| ((s.a &&& 0x000F#16) <<< 8)
      wRESULT := true } ∧
    faultsUnlessWritten .shiftrows [.a] s

/-- MIXCOL, R140 and R141, with the products by 2 and 3 in the forms of R118. -/
def Obligations.MixcolMultipliesTheColumns : Prop :=
  (∀ x : Nibble, gmul 2 x = doubled x ∧ gmul 3 x = tripled x) ∧
  ∀ s : State,
    decode (.cmd16 0x0006#16) = .ok .mixcol ∧
    parseMnemonic ['I', 'N', 'V', 'M', 'I', 'X', 'C', 'O', 'L'] = .ok .mixcol ∧
    exec .mixcol s = .next { s with
      cmd := 0x0006#16
      result :=
        (tripled (s.a.extractLsb' 12 4) ^^^ doubled (s.a.extractLsb' 8 4)) ++
        (doubled (s.a.extractLsb' 12 4) ^^^ tripled (s.a.extractLsb' 8 4)) ++
        (tripled (s.a.extractLsb' 4 4) ^^^ doubled (s.a.extractLsb' 0 4)) ++
        (doubled (s.a.extractLsb' 4 4) ^^^ tripled (s.a.extractLsb' 0 4))
      wRESULT := true } ∧
    faultsUnlessWritten .mixcol [.a] s

/-- ADDRK, R143 and R144: `reg[RESULT] <- reg[A] ^ reg[B]`. -/
def Obligations.AddrkXorsAWithB : Prop :=
  ∀ s : State,
    decode (.cmd16 0x0007#16) = .ok .addrk ∧
    exec .addrk s = .next { s with cmd := 0x0007#16, result := s.a ^^^ s.b, wRESULT := true } ∧
    faultsUnlessWritten .addrk [.a, .b] s

/-- EXPANDKEY, R161 and R162: the recurrence of the key nibbles. -/
def Obligations.ExpandkeyWritesTheRoundKeys : Prop :=
  ∀ s : State, ∃ w0 w1 w2 w3 w4 w5 w6 w7 w8 w9 w10 w11 : Nibble,
    [w0, w1, w2, w3] = nibblesOf s.key ∧
    w4 = w0 ^^^ s.config.sbox.table[w3.toNat] ^^^ 1#4 ∧ w5 = w1 ^^^ w4 ∧ w6 = w2 ^^^ w5 ∧ w7 = w3 ^^^ w6 ∧
    w8 = w4 ^^^ s.config.sbox.table[w7.toNat] ^^^ 2#4 ∧ w9 = w5 ^^^ w8 ∧ w10 = w6 ^^^ w9 ∧ w11 = w7 ^^^ w10 ∧
    decode (.cmd16 0x0008#16) = .ok .expandkey ∧
    exec .expandkey s = .next { s with
      cmd := 0x0008#16
      rk0 := s.key
      rk1 := w4 ++ w5 ++ w6 ++ w7
      rk2 := w8 ++ w9 ++ w10 ++ w11
      wRK := true } ∧
    faultsUnlessWritten .expandkey [.key] s

/-- ENCRYPT, R180, R182 and R186: the eight steps, each as the transform command for it does it, with the round keys
EXPANDKEY would write; and the trace records of R190. -/
def Obligations.EncryptRunsTheEightSteps : Prop :=
  ∀ s : State, ∃ (u : State) (x0 x1 x2 x3 x4 x5 x6 x7 : Word),
    exec .expandkey s = .next u ∧
    x0 = resultOf .addrk s.a u.rk0 s ∧ x1 = resultOf .subnib x0 s.b s ∧ x2 = resultOf .shiftrows x1 s.b s ∧
    x3 = resultOf .mixcol x2 s.b s ∧ x4 = resultOf .addrk x3 u.rk1 s ∧
    x5 = resultOf .subnib x4 s.b s ∧ x6 = resultOf .shiftrows x5 s.b s ∧ x7 = resultOf .addrk x6 u.rk2 s ∧
    decode (.cmd16 0x0009#16) = .ok .encrypt ∧
    parseMnemonic ['E', 'C', 'B', 'E', 'N', 'C'] = .ok .encrypt ∧
    exec .encrypt s = .next { s with
      cmd := 0x0009#16
      result := x7
      wRESULT := true
      trace := if s.config.traceEnabled then
          s.trace ++ [⟨.ark0, x0⟩, ⟨.sn1, x1⟩, ⟨.sr1, x2⟩, ⟨.mc1, x3⟩, ⟨.ark1, x4⟩, ⟨.sn2, x5⟩, ⟨.sr2, x6⟩, ⟨.ark2, x7⟩]
        else s.trace } ∧
    faultsUnlessWritten .encrypt [.a, .key] s

/-- DECRYPT, R183 and R188: the eight steps in the document's order, and the trace records of R190. -/
def Obligations.DecryptRunsTheEightSteps : Prop :=
  ∀ s : State, ∃ (u : State) (x0 x1 x2 x3 x4 x5 x6 x7 : Word),
    exec .expandkey s = .next u ∧
    x0 = resultOf .addrk s.a u.rk2 s ∧ x1 = resultOf .shiftrows x0 s.b s ∧ x2 = resultOf .invsubnib x1 s.b s ∧
    x3 = resultOf .addrk x2 u.rk1 s ∧ x4 = resultOf .mixcol x3 s.b s ∧
    x5 = resultOf .shiftrows x4 s.b s ∧ x6 = resultOf .invsubnib x5 s.b s ∧ x7 = resultOf .addrk x6 u.rk0 s ∧
    decode (.cmd16 0x000A#16) = .ok .decrypt ∧
    parseMnemonic ['E', 'C', 'B', 'D', 'E', 'C'] = .ok .decrypt ∧
    exec .decrypt s = .next { s with
      cmd := 0x000A#16
      result := x7
      wRESULT := true
      trace := if s.config.traceEnabled then
          s.trace ++ [⟨.ark2, x0⟩, ⟨.isr2, x1⟩, ⟨.isn2, x2⟩, ⟨.ark1, x3⟩, ⟨.imc1, x4⟩, ⟨.isr1, x5⟩, ⟨.isn1, x6⟩, ⟨.ark0, x7⟩]
        else s.trace } ∧
    faultsUnlessWritten .decrypt [.a, .key] s

/-- CBCINIT, R211: CHAIN takes IV, and nothing else but CMD changes. -/
def Obligations.CbcinitSeedsTheChain : Prop :=
  ∀ s : State,
    decode (.cmd16 0x000B#16) = .ok .cbcinit ∧
    exec .cbcinit s = .next { s with cmd := 0x000B#16, chain := s.iv } ∧
    faultsUnlessWritten .cbcinit [] s

/-- CBCENC, R212: what ENCRYPT of `A ^ CHAIN` gives goes to RESULT and CHAIN, and its trace records are that
ENCRYPT's. -/
def Obligations.CbcencEncryptsAndChains : Prop :=
  ∀ s : State,
    decode (.cmd16 0x000C#16) = .ok .cbcenc ∧
    (∃ u : State, exec .encrypt { s with a := s.a ^^^ s.chain } = .next u ∧
      exec .cbcenc s = .next { s with
        cmd := 0x000C#16, result := u.result, wRESULT := true, chain := u.result, trace := u.trace }) ∧
    faultsUnlessWritten .cbcenc [.a, .key] s

/-- CBCDEC, R213: what DECRYPT of A gives, XORed with the old CHAIN, goes to RESULT, and CHAIN takes A. -/
def Obligations.CbcdecDecryptsAndChains : Prop :=
  ∀ s : State,
    decode (.cmd16 0x000D#16) = .ok .cbcdec ∧
    (∃ u : State, exec .decrypt s = .next u ∧
      exec .cbcdec s = .next { s with
        cmd := 0x000D#16, result := u.result ^^^ s.chain, wRESULT := true, chain := s.a, trace := u.trace }) ∧
    faultsUnlessWritten .cbcdec [.a, .key] s

/-! ## Host access and errors -/

/-- RD, R250: the register's value is the response and nothing else changes; STATUS reads its hard-wired bits as zero
(R24). A reserved address returns 0x0000 and records BAD_ADDR unless an error is recorded already. -/
def Obligations.ReadReturnsTheRegister : Prop :=
  ∀ s : State,
    (∀ addr : RegAddr, decode (.txn24 (0#1 ++ 0#3 ++ addr ++ 0x0000#16)) = .ok (.rd addr)) ∧
    (∀ r : Reg, faultsUnlessWritten (.rd (regAddr r)) [r] s ∧
      ∃ v : Word, exec (.rd (regAddr r)) s = .next { s with responses := s.responses ++ [v] } ∧
        v = (match r with
          | .cmd => s.cmd
          | .status => s.status &&& 0x00F2#16
          | .a => s.a
          | .b => s.b
          | .key => s.key
          | .iv => s.iv
          | .chain => s.chain
          | .result => s.result
          | .rk0 => s.rk0
          | .rk1 => s.rk1
          | .rk2 => s.rk2)) ∧
    (∀ addr : RegAddr, 0xB ≤ addr.toNat → exec (.rd addr) s = .next { s with
      status := if s.status.getLsbD 1 then s.status else 0x0022#16
      responses := s.responses ++ [0x0000#16] })

/-- WR of A, B, KEY and IV, R251: the value is stored, the written flag set, and nothing else changes. -/
def Obligations.WriteStoresTheOperandRegisters : Prop :=
  ∀ (s : State) (v : Word),
    exec (.wr 0x2#4 v) s = .next { s with a := v, wA := true } ∧
    exec (.wr 0x3#4 v) s = .next { s with b := v, wB := true } ∧
    exec (.wr 0x4#4 v) s = .next { s with key := v, wKEY := true } ∧
    exec (.wr 0x5#4 v) s = .next { s with iv := v }

/-- R54: a reserved address reads as 0x0000, a write there changes no register, and each records BAD_ADDR unless an
error is recorded already. -/
def Obligations.ReservedAddressRecordsBadAddr : Prop :=
  ∀ (s : State) (addr : RegAddr) (v : Word), 0xB ≤ addr.toNat →
    exec (.rd addr) s = .next { s with
      status := if s.status.getLsbD 1 then s.status else 0x0022#16
      responses := s.responses ++ [0x0000#16] } ∧
    exec (.wr addr v) s = .next { s with status := if s.status.getLsbD 1 then s.status else 0x0022#16 }

/-- The read-only registers, code 3 of R270: a write of STATUS, CHAIN, RESULT or RK0–RK2 changes nothing and records
RO_WRITE unless an error is recorded already (R271). -/
def Obligations.ReadOnlyWriteRecordsRoWrite : Prop :=
  ∀ (s : State) (v : Word), ∀ r ∈ [Reg.status, .chain, .result, .rk0, .rk1, .rk2],
    exec (.wr (regAddr r) v) s = .next { s with status := if s.status.getLsbD 1 then s.status else 0x0032#16 }

/-- R84: an illegal CMD value is stored, records ILLEGAL_CMD unless an error is recorded already, and does nothing
else. -/
def Obligations.IllegalCommandRecordsIllegalCmd : Prop :=
  ∀ (s : State) (v : Word),
    v.extractLsb' 4 12 ≠ 0#12 ∨ v.extractLsb' 0 4 = 0xE#4 ∨ v.extractLsb' 0 4 = 0xF#4 →
    exec (.wr 0x0#4 v) s = .next { s with
      cmd := v
      status := if s.status.getLsbD 1 then s.status else 0x0012#16 }

/-- Every instruction in every state answers a next state: the core cannot get stuck (R252), and `exec` never faults
(log 2). -/
def Obligations.EveryInstructionCompletes : Prop :=
  ∀ (i : Instr) (s : State), ∃ t : State, exec i s = .next t ∧ t.inbox = s.inbox ∧ t.config = s.config

/-- R273 and R272: over any program a recorded error stays as it is, and STATUS changes only where a misuse of the
interface is in the program; reset clears it. -/
def Obligations.StatusRecordsOnlyTheFirstMisuse : Prop :=
  ∀ (is : List Instr) (s : State), ∃ t : State, runInstrs is s = .next t ∧
    (s.status.getLsbD 1 = true → t.status = s.status) ∧
    (t.status ≠ s.status → ∃ i ∈ is,
      (∃ addr : RegAddr, 0xB ≤ addr.toNat ∧ (i = .rd addr ∨ ∃ v, i = .wr addr v) ∧ t.status = 0x0022#16) ∨
      (∃ r ∈ [Reg.status, .chain, .result, .rk0, .rk1, .rk2], ∃ v, i = .wr (regAddr r) v ∧ t.status = 0x0032#16) ∨
      (∃ v : Word, (∀ c : Command, v ≠ encodeCmd c) ∧ i = .wr 0x0#4 v ∧ t.status = 0x0012#16)) ∧
    ∀ rest : List HostInput, ∃ u : State, step { t with inbox := .reset :: rest } = .next u ∧
      statusErr u.status = false ∧ statusEcode u.status = 0#4

/-! ## Whole-machine rules -/

/-- The "written by" column of R22, and R33: which instructions may change each register, each written flag and the
trace log, and that no instruction changes the configuration or the host's inputs. -/
def Obligations.OnlyTheNamedWritersChangeARegister : Prop :=
  ∀ (i : Instr) (s t : State), exec i s = .next t →
    (t.cmd ≠ s.cmd → (∃ c, i = Command.toInstr c) ∨ ∃ v, i = .wr 0x0#4 v) ∧
    (t.status ≠ s.status →
      (∃ addr : RegAddr, 0xB ≤ addr.toNat ∧ (i = .rd addr ∨ ∃ v, i = .wr addr v)) ∨
      (∃ r ∈ [Reg.status, .chain, .result, .rk0, .rk1, .rk2], ∃ v, i = .wr (regAddr r) v) ∨
      (∃ v : Word, (∀ c : Command, v ≠ encodeCmd c) ∧ i = .wr 0x0#4 v)) ∧
    (t.a ≠ s.a ∨ t.wA ≠ s.wA → ∃ v, i = .wr 0x2#4 v) ∧
    (t.b ≠ s.b ∨ t.wB ≠ s.wB → ∃ v, i = .wr 0x3#4 v) ∧
    (t.key ≠ s.key ∨ t.wKEY ≠ s.wKEY → ∃ v, i = .wr 0x4#4 v) ∧
    (t.iv ≠ s.iv → ∃ v, i = .wr 0x5#4 v) ∧
    (t.chain ≠ s.chain → ∃ c ∈ [Command.cbcinit, .cbcenc, .cbcdec], performs i c) ∧
    (t.result ≠ s.result ∨ t.wRESULT ≠ s.wRESULT → ∃ c ∈ [Command.gfadd, .gfmul, .subnib, .invsubnib, .shiftrows,
      .mixcol, .addrk, .encrypt, .decrypt, .cbcenc, .cbcdec], performs i c) ∧
    (t.rk0 ≠ s.rk0 ∨ t.rk1 ≠ s.rk1 ∨ t.rk2 ≠ s.rk2 ∨ t.wRK ≠ s.wRK → performs i .expandkey) ∧
    (t.trace ≠ s.trace → ∃ c ∈ [Command.encrypt, .decrypt, .cbcenc, .cbcdec], performs i c) ∧
    (t.responses ≠ s.responses → ∃ addr, i = .rd addr) ∧
    t.config = s.config ∧ t.inbox = s.inbox

/-- R61: a read of A, B, KEY or IV returns the value of the most recent write, whatever other transactions came
between. -/
def Obligations.ReadSeesTheMostRecentWrite : Prop :=
  ∀ (is : List Instr) (s : State) (r : Reg) (v : Word), r ∈ [Reg.a, .b, .key, .iv] →
    (∀ i ∈ is, ∀ u, i ≠ .wr (regAddr r) u) →
    ∃ t u : State, runInstrs (wrReg r v :: is) s = .next t ∧
      exec (rdReg r) t = .next u ∧ u.responses = t.responses ++ [v]

/-- R312: RK0–RK2 keep the round keys of the KEY value at the last EXPANDKEY, whatever comes after but EXPANDKEY. -/
def Obligations.RoundKeysStayUntilTheNextExpandkey : Prop :=
  ∀ (is : List Instr) (s : State), (∀ i ∈ is, ¬ performs i .expandkey) →
    ∃ t : State, runInstrs (.expandkey :: is) s = .next t ∧
      t.rk0 = s.key ∧ ({ k0 := t.rk0, k1 := t.rk1, k2 := t.rk2 } : RoundKeys) = expandKey s.config.sbox s.key

/-- R215: only CBCINIT, CBCENC and CBCDEC write CHAIN, so any other instructions may stand inside a CBC message. -/
def Obligations.OtherCommandsLeaveTheChain : Prop :=
  ∀ (is : List Instr) (s : State),
    (∀ i ∈ is, ¬ performs i .cbcinit ∧ ¬ performs i .cbcenc ∧ ¬ performs i .cbcdec) →
    ∃ t : State, runInstrs is s = .next t ∧ t.chain = s.chain

/-- R217: a host saves CHAIN by reading it and restores it with `wr IV, saved` and CBCINIT, whatever it did between. -/
def Obligations.SavedChainCanBeRestored : Prop :=
  ∀ (is : List Instr) (s : State), ∃ (saved : Word) (t u : State),
    exec (rdReg .chain) s = .next t ∧ t.responses = s.responses ++ [saved] ∧
    runInstrs (is ++ [wrReg .iv saved, cmdTxn .cbcinit]) t = .next u ∧ u.chain = s.chain

/-- R187: the result of ENCRYPT and DECRYPT depends only on A, KEY and SBOX, after any earlier transactions and in any
two cores. -/
def Obligations.CipherDependsOnlyOnBlockKeyAndSbox : Prop :=
  ∀ (is js : List Instr) (s t : State) (a k : Word), s.config.sbox = t.config.sbox →
    ∀ c ∈ [Command.encrypt, .decrypt], ∃ s' t' : State,
      runInstrs (is ++ [wrReg .a a, wrReg .key k, c.toInstr]) s = .next s' ∧
      runInstrs (js ++ [wrReg .key k, wrReg .a a, c.toInstr]) t = .next t' ∧
      s'.result = t'.result

/-- R254: no command reads STATUS, CMD, RESULT or RK0–RK2 as an operand. -/
def Obligations.ReportedRegistersAreNeverOperands : Prop :=
  ∀ (c : Command) (s : State) (vCmd vStatus vResult v0 v1 v2 : Word) (t u : State),
    exec c.toInstr s = .next t →
    exec c.toInstr { s with cmd := vCmd, status := vStatus, result := vResult, rk0 := v0, rk1 := v1, rk2 := v2 } = .next u →
    u.chain = t.chain ∧ u.trace = t.trace ∧ u.cmd = t.cmd ∧ u.status = vStatus ∧
    (c ∉ [Command.nop, .expandkey, .cbcinit] → u.result = t.result) ∧
    (c = .expandkey → u.rk0 = t.rk0 ∧ u.rk1 = t.rk1 ∧ u.rk2 = t.rk2)

/-- R191: tracing never changes a register, STATUS or a result. -/
def Obligations.TracingNeverChangesAResult : Prop :=
  ∀ (n : Nat) (s t : State), sameButTrace s t → outcomesRelated sameButTrace (runSteps n s) (runSteps n t)

/-- The point of R33: under its fault, nothing a step does depends on the value of a register that was never
written. -/
def Obligations.UnwrittenValuesNeverMatter : Prop :=
  ∀ s t : State, sameButUnwritten s t → outcomesRelated sameButUnwritten (checkedStep s) (checkedStep t)

/-- R33 beside the step of this model. The checked step is the checked meaning of the decoded transaction. It faults
exactly when a register that transaction reads was never written, and the fault names such a register; there `step` goes
on (log 2). Otherwise, and where the next input is no transaction, it is the step. -/
def Obligations.CheckedStepIsTheStepOrTheFault : Prop :=
  ∀ s : State,
    (∀ (w : TxnWord) (rest : List HostInput) (i : Instr), s.inbox = .txn w :: rest → decodeTxn w = .ok i →
      checkedStep s = checkedExec i { s with inbox := rest } ∧
      ((∃ f : Fault, checkedStep s = .fault f) ↔ ∃ r ∈ operandRegs i, writtenFlag r s = false) ∧
      (∀ r : Reg, checkedStep s = .fault (.unwrittenRead r) →
        r ∈ operandRegs i ∧ writtenFlag r s = false ∧ ∃ t : State, step s = .next t) ∧
      ((∀ r ∈ operandRegs i, writtenFlag r s = true) → checkedStep s = step s)) ∧
    ((∀ (w : TxnWord) (rest : List HostInput) (i : Instr), s.inbox = .txn w :: rest → decodeTxn w ≠ .ok i) →
      checkedStep s = step s)

/-- R33 for a host write. A write of a command's word to CMD is, also under the check, that command, and it faults exactly
when a register the command reads (R83) was never written. A write to another address, or of an illegal command, never
faults. -/
def Obligations.CheckedWriteFaultsOnlyForItsCommand : Prop :=
  ∀ (s : State) (addr : RegAddr) (v : Word),
    (∀ c : Command, decodeCmd v = .ok c →
      checkedExec (.wr 0x0#4 v) s = checkedExec c.toInstr s ∧
      faultsUnlessWritten (.wr 0x0#4 v) (commandOperands c) s ∧
      ((∃ r : Reg, checkedExec (.wr 0x0#4 v) s = .fault (.unwrittenRead r)) ↔
        ∃ r ∈ commandOperands c, writtenFlag r s = false) ∧
      commandOperands c = (match c with
        | .nop | .cbcinit => []
        | .gfadd | .gfmul | .addrk => [Reg.a, .b]
        | .subnib | .invsubnib | .shiftrows | .mixcol => [.a]
        | .expandkey => [.key]
        | .encrypt | .decrypt | .cbcenc | .cbcdec => [.a, .key])) ∧
    (addr ≠ 0x0#4 ∨ decodeCmd v = .error .illegalCommand →
      ∃ t : State, checkedExec (.wr addr v) s = .next t ∧ exec (.wr addr v) s = .next t)

/-- R252: a faulted run has no further steps and is never a successful end. Under the fault of R33 a run or a program
that has faulted ends in that fault however it goes on, a program sent as transaction words (log 7) ends as the program
does, and a program that ends in a state ends in the one the unchecked program gives. -/
def Obligations.FaultedRunHasNoFurtherSteps : Prop :=
  ∀ (s : State) (f : Fault),
    (∀ n m : Nat, checkedRunSteps n s = .fault f → checkedRunSteps (n + m) s = .fault f) ∧
    (∀ is js : List Instr, checkedRunInstrs is s = .fault f → checkedRunInstrs (is ++ js) s = .fault f) ∧
    (∀ is : List Instr, s.inbox = [] →
      checkedRunSteps is.length (sendScript (is.map txnOfInstr) s) = checkedRunInstrs is s) ∧
    (∀ (is : List Instr) (t : State), checkedRunInstrs is s = .next t → runInstrs is s = .next t) ∧
    (∀ (is js : List Instr) (i : Instr) (t : State), checkedRunInstrs is s = .next t →
      (∃ r ∈ operandRegs i, writtenFlag r t = false) →
      ∃ r : Reg, checkedRunInstrs (is ++ i :: js) s = .fault (.unwrittenRead r))

/-- The invariant holds at reset. -/
def Obligations.ResetMeetsTheInvariant : Prop := coreInvariant State.reset

/-- Every step keeps the invariant: STATUS has a legal value (R24), the round key file is one key's expansion (R32), the
trace log is empty when tracing is off and holds whole runs of eight (R36, R190), an illegal CMD value comes with ERR
(R253). -/
def Obligations.EveryStepKeepsTheInvariant : Prop :=
  ∀ s t : State, coreInvariant s → step s = .next t → coreInvariant t

/-! ## Field and transform laws -/

/-- R113 and R115: the laws of `gadd` and `gmul`. -/
def Obligations.FieldLaws : Prop :=
  (∀ x y z : Nibble, gadd x y = gadd y x ∧ gadd x x = 0 ∧ gadd x 0 = x ∧
    gadd (gadd x y) z = gadd x (gadd y z)) ∧
  (∀ x y z : Nibble, gmul x y = gmul y x ∧ gmul (gmul x y) z = gmul x (gmul y z) ∧
    gmul x (gadd y z) = gadd (gmul x y) (gmul x z) ∧ gmul 1 x = x) ∧
  (∀ x : Nibble, x ≠ 0 → ∃ y : Nibble, gmul x y = 1 ∧ ∀ z : Nibble, gmul x z = 1 → z = y)

/-- R132: a table is accepted as SBOX exactly when it is a permutation of 0..15; the default table is one, with no fixed
point. That a table is refused where an S-box is made of it is log 6; eight entries of the default table are PRESUMED,
log 4. -/
def Obligations.OnlyPermutationsAreSboxes : Prop :=
  sboxOfTable defaultSBoxTable = some defaultSBox ∧ (∀ x : Nibble, sboxForward defaultSBox x ≠ x) ∧
  ∀ t : Vector Nibble 16,
    (∃ sb : SBox, sboxOfTable t = some sb ∧ sb.table = t) ↔
      ∀ y : Nibble, ∃ x : Nibble, t[x.toNat] = y ∧ ∀ z : Nibble, t[z.toNat] = y → z = x

/-- R135, R139, R142 and the self-inverse of R143: INVSUBNIB undoes SUBNIB and is undone by it; SHIFTROWS, MIXCOL and
ADDRK with one key undo themselves; for every S-box. -/
def Obligations.TransformsAreUndone : Prop :=
  ∀ (s : State) (x k : Word),
    resultOf .invsubnib (resultOf .subnib x k s) k s = x ∧
    resultOf .subnib (resultOf .invsubnib x k s) k s = x ∧
    resultOf .shiftrows (resultOf .shiftrows x k s) k s = x ∧
    resultOf .mixcol (resultOf .mixcol x k s) k s = x ∧
    resultOf .addrk (resultOf .addrk x k s) k s = x

/-- R146: SHIFTROWS commutes with SUBNIB and with INVSUBNIB. -/
def Obligations.ShiftrowsCommutesWithSubstitution : Prop :=
  ∀ (s : State) (x b : Word), ∀ c ∈ [Command.subnib, .invsubnib],
    resultOf .shiftrows (resultOf c x b s) b s = resultOf c (resultOf .shiftrows x b s) b s

/-- R185: DECRYPT undoes ENCRYPT and ENCRYPT undoes DECRYPT, for every block, key and S-box. -/
def Obligations.DecryptUndoesEncrypt : Prop :=
  ∀ (s : State) (x b : Word),
    resultOf .decrypt (resultOf .encrypt x b s) b s = x ∧
    resultOf .encrypt (resultOf .decrypt x b s) b s = x

/-! ## Chaining and messages -/

/-- R219: CBCDEC of what CBCENC gave, from the same CHAIN and KEY, gives the blocks back, and both leave CHAIN at the
last ciphertext. -/
def Obligations.CbcBlocksRoundTrip : Prop :=
  ∀ (s s' : State) (ps : List Word),
    s'.chain = s.chain → s'.key = s.key → s'.config.sbox = s.config.sbox →
    ∃ (cs : List Word) (t t' : State),
      runInstrs (ps.flatMap (blockScript .cbcenc)) s = .next t ∧ t.responses = s.responses ++ cs ∧
      runInstrs (cs.flatMap (blockScript .cbcdec)) s' = .next t' ∧ t'.responses = s'.responses ++ ps ∧
      t.chain = cs.getLastD s.chain ∧ t'.chain = cs.getLastD s.chain

/-- R214 and R236: the output blocks of the ECB procedure are those of each block alone, so they do not depend on the
order or on the blocks before; CHAIN is left alone. -/
def Obligations.EcbBlocksAreIndependent : Prop :=
  ∀ (s : State) (key : Word) (blocks : List Word), ∀ c ∈ [Command.encrypt, .decrypt], ∃ t : State,
    runInstrs (ecbScript c key blocks) s = .next t ∧ t.chain = s.chain ∧
    t.responses = s.responses ++ blocks.map (fun b => resultOf c b s.b { s with key := key })

/-- R234: the message is split from the start into ⌈L/4⌉ blocks and the last one padded with zero digits at its low
end. -/
def Obligations.FramingPadsWithZeroDigits : Prop :=
  ∀ ds : List Nibble,
    (frameDigits ds).flatMap nibblesOf = ds ++ List.replicate ((4 - ds.length % 4) % 4) 0#4 ∧
    (frameDigits ds).length = (ds.length + 3) / 4

/-- R231, R233 and R240: when the driver refuses, with which error, and that a valid call is done. That a message with a
non-hex character is a FormatError also where the key or the IV is out of range is the order of the checks, the model's
choice, log 13; that an IV out of range is refused in ECB mode too is log 13; that a mode in lower case is refused is
log 14. -/
def Obligations.DriverChecksItsArguments : Prop :=
  ∀ (msg : List Char) (key : KeyArg) (mode : List Char) (iv : Option Int) (s : State),
    ∀ f ∈ [encryptMode, decryptMode],
      ((∃ c ∈ msg, hexDigit c = none) → f msg key mode iv s = .error .formatError) ∧
      ∀ ds k m v, validCall msg key mode iv ds k m v →
        (∃ d, f msg key mode iv s = .ok (.next d)) ∧
        (∀ cs : List Char, cs.length ≠ 4 ∨ (∃ c ∈ cs, hexDigit c = none) →
          f msg (.hex cs) mode iv s = .error .formatError) ∧
        (∀ n : Int, n < 0 ∨ 0xFFFF < n → f msg (.number n) mode iv s = .error .rangeError) ∧
        (∀ cs : List Char, cs ≠ ['E', 'C', 'B'] → cs ≠ ['C', 'B', 'C'] →
          f msg key cs iv s = .error .formatError) ∧
        (∀ n : Int, n < 0 ∨ 0xFFFF < n → f msg key mode (some n) s = .error .rangeError)

/-- R235: an empty message gives the empty string and no cipher command; in CBC mode the chain is still seeded. -/
def Obligations.EmptyMessageGivesEmptyOutput : Prop :=
  ∀ (key : KeyArg) (k : Word) (iv : Option Int) (v : Word) (s : State), parseKey key = .ok k → parseIv iv = .ok v →
    ∀ f ∈ [encryptMode, decryptMode],
      f [] key ['E', 'C', 'B'] iv s =
        .ok (.next { output := [], core := { s with key := k, wKEY := true } }) ∧
      f [] key ['C', 'B', 'C'] iv s =
        .ok (.next { output := [], core := { s with key := k, wKEY := true, iv := v, chain := v, cmd := 0x000B#16 } })

/-- R242: the ECB encryption of a concatenation is the concatenation of the encryptions when the first part is whole
blocks. -/
def Obligations.EcbOfConcatenation : Prop :=
  ∀ (m1 m2 : List Char) (key : KeyArg) (iv : Option Int) (ds1 ds2 : List Nibble) (k v : Word) (s : State),
    m1.length % 4 = 0 →
    validCall m1 key ['E', 'C', 'B'] iv ds1 k .ecb v → validCall m2 key ['E', 'C', 'B'] iv ds2 k .ecb v →
    ∃ d d1 d2 : DriverDone,
      encryptMode (m1 ++ m2) key ['E', 'C', 'B'] iv s = .ok (.next d) ∧
      encryptMode m1 key ['E', 'C', 'B'] iv s = .ok (.next d1) ∧
      encryptMode m2 key ['E', 'C', 'B'] iv s = .ok (.next d2) ∧
      d.output = d1.output ++ d2.output

/-- R243 for CBC, and for ECB what R185, R214 and R236 give: decrypting an encrypted message gives the message in upper
case (R232) with its padding kept (R239), for every S-box, and on any core with that S-box. -/
def Obligations.MessageRoundTrip : Prop :=
  ∀ (msg : List Char) (key : KeyArg) (mode : List Char) (iv : Option Int)
    (ds : List Nibble) (k : Word) (m : Mode) (v : Word) (s s' : State),
    validCall msg key mode iv ds k m v → s'.config.sbox = s.config.sbox →
    ∃ d d' : DriverDone,
      encryptMode msg key mode iv s = .ok (.next d) ∧
      decryptMode d.output key mode iv s' = .ok (.next d') ∧
      d'.output = msg.map Char.toUpper ++ List.replicate ((4 - msg.length % 4) % 4) '0'

/-! ## Scripts -/

/-- R89 and R91: `cmd X` is the host write of X's opcode to CMD, for each command and each alias, and a line `wr` or
`rd` of a register name is that transaction; names in any mix of capitals. That a bare token of four hex digits is a
block also when its digits are decimal ones is log 16. -/
def Obligations.ScriptLinesIssueTheirTransactions : Prop :=
  (∀ (c : Command) (name : List Char),
    name.map lowerChar = (commandName c).map lowerChar ∨ (name.map lowerChar, c) ∈ aliasNames →
    parseLine (['c', 'm', 'd', ' '] ++ name) = .ok (some { instr := .wr 0x0#4 (0#12 ++ c.opcode), expected := none })) ∧
  ∀ (name : List Char) (r : Reg) (v : Word), (name.map lowerChar, r) ∈ regNames →
    parseLine (['w', 'r', ' '] ++ name ++ [',', ' ', '0', 'x'] ++ encodeHex v) =
      .ok (some { instr := .wr (regAddr r) v, expected := none }) ∧
    parseLine (['r', 'd', ' '] ++ name) = .ok (some { instr := .rd (regAddr r), expected := none }) ∧
    parseLine (['r', 'd', ' '] ++ name ++ [' ', '=', '>', ' '] ++ encodeHex v) =
      .ok (some { instr := .rd (regAddr r), expected := some v })
end

