-- ==== Sys2Proof/Laws/Encoding.lean ====
section
/-! SUPPORT. What the decoder and the encoder do to each other's fields. -/

namespace Sys2Proof

theorem opField_encodeCmd (c : Command) : opField (encodeCmd c) = c.opcode := by cases c <;> decide

theorem rsvdField_encodeCmd (c : Command) : rsvdField (encodeCmd c) = 0#12 := by cases c <;> decide

theorem commandOfOpcode_opcode (c : Command) : commandOfOpcode c.opcode = some c := by cases c <;> rfl

theorem opcode_of_commandOfOpcode :
    ∀ (op : BitVec 4) (c : Command), commandOfOpcode op = some c → c.opcode = op := by decide

@[simp] theorem decodeCmd_encodeCmd (c : Command) : decodeCmd (encodeCmd c) = .ok c := by cases c <;> rfl

/-- A word is its RSVD field and its OP field. -/
theorem rsvd_append_op (v : Word) : rsvdField v ++ opField v = v := by
  apply BitVec.eq_of_getLsbD_eq
  intro i hi
  simp only [rsvdField, opField, BitVec.getLsbD_append, BitVec.getLsbD_extractLsb']
  interval_cases i <;> simp

/-- What `decodeCmd` accepts is the command's own word. -/
theorem encodeCmd_of_decodeCmd {v : Word} {c : Command} (h : decodeCmd v = .ok c) : encodeCmd c = v := by
  unfold decodeCmd at h
  split at h
  · rename_i hr
    split at h
    · rename_i c' hc
      cases h
      rw [encodeCmd, opcode_of_commandOfOpcode _ _ hc, ← hr, rsvd_append_op]
    · cases h
  · cases h

/-- `decodeCmd` fails in one way. -/
theorem decodeCmd_error {v : Word} {e : DecodeError} (h : decodeCmd v = .error e) : e = .illegalCommand := by
  unfold decodeCmd at h
  split at h
  · split at h <;> cases h
    rfl
  · cases h
    rfl

/-- The fields of a read record (R88, R250). -/
theorem read_fields (a : RegAddr) :
    txnReserved (encodeRead a) = 0#3 ∧ txnIsWrite (encodeRead a) = false ∧
    txnAddr (encodeRead a) = a ∧ txnData (encodeRead a) = 0#16 := by
  refine ⟨?_, ?_, ?_, ?_⟩ <;> revert a <;> decide

/-- The fields of a write record (R88, R251). -/
theorem write_fields (a : RegAddr) (v : Word) :
    txnReserved (encodeWrite a v) = 0#3 ∧ txnIsWrite (encodeWrite a v) = true ∧
    txnAddr (encodeWrite a v) = a ∧ txnData (encodeWrite a v) = v := by
  refine ⟨?_, ?_, ?_, ?_⟩
  · apply BitVec.eq_of_getLsbD_eq
    intro i hi
    change BitVec.getLsbD (BitVec.extractLsb' 20 3 (1#1 ++ 0#3 ++ a ++ v)) i = _
    simp only [BitVec.getLsbD_append, BitVec.getLsbD_extractLsb']
    interval_cases i <;> simp
  · change BitVec.getLsbD (1#1 ++ 0#3 ++ a ++ v) 23 = _
    simp only [BitVec.getLsbD_append]
    simp
  · apply BitVec.eq_of_getLsbD_eq
    intro i hi
    change BitVec.getLsbD (BitVec.extractLsb' 16 4 (1#1 ++ 0#3 ++ a ++ v)) i = _
    simp only [BitVec.getLsbD_append, BitVec.getLsbD_extractLsb']
    interval_cases i <;> simp
  · apply BitVec.eq_of_getLsbD_eq
    intro i hi
    change BitVec.getLsbD (BitVec.extractLsb' 0 16 (1#1 ++ 0#3 ++ a ++ v)) i = _
    simp only [BitVec.getLsbD_append, BitVec.getLsbD_extractLsb']
    interval_cases i <;> simp

theorem decodeTxn_encodeRead (a : RegAddr) : decodeTxn (encodeRead a) = .ok (.rd a) := by
  obtain ⟨h1, h2, h3, h4⟩ := read_fields a
  simp [decodeTxn, h1, h2, h3, h4]

theorem decodeTxn_encodeWrite (a : RegAddr) (v : Word) : decodeTxn (encodeWrite a v) = .ok (.wr a v) := by
  obtain ⟨h1, h2, h3, h4⟩ := write_fields a v
  simp [decodeTxn, h1, h2, h3, h4]

/-- A transaction word is its four fields. -/
theorem txn_append_fields (w : TxnWord) :
    (BitVec.ofBool (txnIsWrite w) ++ txnReserved w ++ txnAddr w ++ txnData w : TxnWord) = w := by
  apply BitVec.eq_of_getLsbD_eq
  intro i hi
  simp only [txnIsWrite, txnReserved, txnAddr, txnData, BitVec.getLsbD_append, BitVec.getLsbD_extractLsb',
    BitVec.getLsbD_ofBool]
  interval_cases i <;> simp

end Sys2Proof
end

