-- ==== Sys2Proof/Laws/State.lean ====
section
/-! SUPPORT. One lemma per field per update of State, each true by unfolding the one update. -/

namespace Sys2Proof.Machine

section raiseError
variable (e : ErrorCode) (s : State)

@[simp] theorem raiseError_cmd : (raiseError e s).cmd = s.cmd := rfl
@[simp] theorem raiseError_status : (raiseError e s).status = recordError e s.status := rfl
@[simp] theorem raiseError_a : (raiseError e s).a = s.a := rfl
@[simp] theorem raiseError_b : (raiseError e s).b = s.b := rfl
@[simp] theorem raiseError_key : (raiseError e s).key = s.key := rfl
@[simp] theorem raiseError_iv : (raiseError e s).iv = s.iv := rfl
@[simp] theorem raiseError_chain : (raiseError e s).chain = s.chain := rfl
@[simp] theorem raiseError_result : (raiseError e s).result = s.result := rfl
@[simp] theorem raiseError_rk0 : (raiseError e s).rk0 = s.rk0 := rfl
@[simp] theorem raiseError_rk1 : (raiseError e s).rk1 = s.rk1 := rfl
@[simp] theorem raiseError_rk2 : (raiseError e s).rk2 = s.rk2 := rfl
@[simp] theorem raiseError_wA : (raiseError e s).wA = s.wA := rfl
@[simp] theorem raiseError_wB : (raiseError e s).wB = s.wB := rfl
@[simp] theorem raiseError_wKEY : (raiseError e s).wKEY = s.wKEY := rfl
@[simp] theorem raiseError_wRESULT : (raiseError e s).wRESULT = s.wRESULT := rfl
@[simp] theorem raiseError_wRK : (raiseError e s).wRK = s.wRK := rfl
@[simp] theorem raiseError_trace : (raiseError e s).trace = s.trace := rfl
@[simp] theorem raiseError_responses : (raiseError e s).responses = s.responses := rfl
@[simp] theorem raiseError_inbox : (raiseError e s).inbox = s.inbox := rfl
@[simp] theorem raiseError_config : (raiseError e s).config = s.config := rfl

end raiseError

section storeCmd
variable (v : Word) (s : State)

@[simp] theorem storeCmd_cmd : (storeCmd v s).cmd = v := rfl
@[simp] theorem storeCmd_status : (storeCmd v s).status = s.status := rfl
@[simp] theorem storeCmd_a : (storeCmd v s).a = s.a := rfl
@[simp] theorem storeCmd_b : (storeCmd v s).b = s.b := rfl
@[simp] theorem storeCmd_key : (storeCmd v s).key = s.key := rfl
@[simp] theorem storeCmd_iv : (storeCmd v s).iv = s.iv := rfl
@[simp] theorem storeCmd_chain : (storeCmd v s).chain = s.chain := rfl
@[simp] theorem storeCmd_result : (storeCmd v s).result = s.result := rfl
@[simp] theorem storeCmd_rk0 : (storeCmd v s).rk0 = s.rk0 := rfl
@[simp] theorem storeCmd_rk1 : (storeCmd v s).rk1 = s.rk1 := rfl
@[simp] theorem storeCmd_rk2 : (storeCmd v s).rk2 = s.rk2 := rfl
@[simp] theorem storeCmd_wA : (storeCmd v s).wA = s.wA := rfl
@[simp] theorem storeCmd_wB : (storeCmd v s).wB = s.wB := rfl
@[simp] theorem storeCmd_wKEY : (storeCmd v s).wKEY = s.wKEY := rfl
@[simp] theorem storeCmd_wRESULT : (storeCmd v s).wRESULT = s.wRESULT := rfl
@[simp] theorem storeCmd_wRK : (storeCmd v s).wRK = s.wRK := rfl
@[simp] theorem storeCmd_trace : (storeCmd v s).trace = s.trace := rfl
@[simp] theorem storeCmd_responses : (storeCmd v s).responses = s.responses := rfl
@[simp] theorem storeCmd_inbox : (storeCmd v s).inbox = s.inbox := rfl
@[simp] theorem storeCmd_config : (storeCmd v s).config = s.config := rfl

end storeCmd

section writeA
variable (v : Word) (s : State)

@[simp] theorem writeA_cmd : (writeA v s).cmd = s.cmd := rfl
@[simp] theorem writeA_status : (writeA v s).status = s.status := rfl
@[simp] theorem writeA_a : (writeA v s).a = v := rfl
@[simp] theorem writeA_b : (writeA v s).b = s.b := rfl
@[simp] theorem writeA_key : (writeA v s).key = s.key := rfl
@[simp] theorem writeA_iv : (writeA v s).iv = s.iv := rfl
@[simp] theorem writeA_chain : (writeA v s).chain = s.chain := rfl
@[simp] theorem writeA_result : (writeA v s).result = s.result := rfl
@[simp] theorem writeA_rk0 : (writeA v s).rk0 = s.rk0 := rfl
@[simp] theorem writeA_rk1 : (writeA v s).rk1 = s.rk1 := rfl
@[simp] theorem writeA_rk2 : (writeA v s).rk2 = s.rk2 := rfl
@[simp] theorem writeA_wA : (writeA v s).wA = true := rfl
@[simp] theorem writeA_wB : (writeA v s).wB = s.wB := rfl
@[simp] theorem writeA_wKEY : (writeA v s).wKEY = s.wKEY := rfl
@[simp] theorem writeA_wRESULT : (writeA v s).wRESULT = s.wRESULT := rfl
@[simp] theorem writeA_wRK : (writeA v s).wRK = s.wRK := rfl
@[simp] theorem writeA_trace : (writeA v s).trace = s.trace := rfl
@[simp] theorem writeA_responses : (writeA v s).responses = s.responses := rfl
@[simp] theorem writeA_inbox : (writeA v s).inbox = s.inbox := rfl
@[simp] theorem writeA_config : (writeA v s).config = s.config := rfl

end writeA

section writeB
variable (v : Word) (s : State)

@[simp] theorem writeB_cmd : (writeB v s).cmd = s.cmd := rfl
@[simp] theorem writeB_status : (writeB v s).status = s.status := rfl
@[simp] theorem writeB_a : (writeB v s).a = s.a := rfl
@[simp] theorem writeB_b : (writeB v s).b = v := rfl
@[simp] theorem writeB_key : (writeB v s).key = s.key := rfl
@[simp] theorem writeB_iv : (writeB v s).iv = s.iv := rfl
@[simp] theorem writeB_chain : (writeB v s).chain = s.chain := rfl
@[simp] theorem writeB_result : (writeB v s).result = s.result := rfl
@[simp] theorem writeB_rk0 : (writeB v s).rk0 = s.rk0 := rfl
@[simp] theorem writeB_rk1 : (writeB v s).rk1 = s.rk1 := rfl
@[simp] theorem writeB_rk2 : (writeB v s).rk2 = s.rk2 := rfl
@[simp] theorem writeB_wA : (writeB v s).wA = s.wA := rfl
@[simp] theorem writeB_wB : (writeB v s).wB = true := rfl
@[simp] theorem writeB_wKEY : (writeB v s).wKEY = s.wKEY := rfl
@[simp] theorem writeB_wRESULT : (writeB v s).wRESULT = s.wRESULT := rfl
@[simp] theorem writeB_wRK : (writeB v s).wRK = s.wRK := rfl
@[simp] theorem writeB_trace : (writeB v s).trace = s.trace := rfl
@[simp] theorem writeB_responses : (writeB v s).responses = s.responses := rfl
@[simp] theorem writeB_inbox : (writeB v s).inbox = s.inbox := rfl
@[simp] theorem writeB_config : (writeB v s).config = s.config := rfl

end writeB

section writeKey
variable (v : Word) (s : State)

@[simp] theorem writeKey_cmd : (writeKey v s).cmd = s.cmd := rfl
@[simp] theorem writeKey_status : (writeKey v s).status = s.status := rfl
@[simp] theorem writeKey_a : (writeKey v s).a = s.a := rfl
@[simp] theorem writeKey_b : (writeKey v s).b = s.b := rfl
@[simp] theorem writeKey_key : (writeKey v s).key = v := rfl
@[simp] theorem writeKey_iv : (writeKey v s).iv = s.iv := rfl
@[simp] theorem writeKey_chain : (writeKey v s).chain = s.chain := rfl
@[simp] theorem writeKey_result : (writeKey v s).result = s.result := rfl
@[simp] theorem writeKey_rk0 : (writeKey v s).rk0 = s.rk0 := rfl
@[simp] theorem writeKey_rk1 : (writeKey v s).rk1 = s.rk1 := rfl
@[simp] theorem writeKey_rk2 : (writeKey v s).rk2 = s.rk2 := rfl
@[simp] theorem writeKey_wA : (writeKey v s).wA = s.wA := rfl
@[simp] theorem writeKey_wB : (writeKey v s).wB = s.wB := rfl
@[simp] theorem writeKey_wKEY : (writeKey v s).wKEY = true := rfl
@[simp] theorem writeKey_wRESULT : (writeKey v s).wRESULT = s.wRESULT := rfl
@[simp] theorem writeKey_wRK : (writeKey v s).wRK = s.wRK := rfl
@[simp] theorem writeKey_trace : (writeKey v s).trace = s.trace := rfl
@[simp] theorem writeKey_responses : (writeKey v s).responses = s.responses := rfl
@[simp] theorem writeKey_inbox : (writeKey v s).inbox = s.inbox := rfl
@[simp] theorem writeKey_config : (writeKey v s).config = s.config := rfl

end writeKey

section writeIv
variable (v : Word) (s : State)

@[simp] theorem writeIv_cmd : (writeIv v s).cmd = s.cmd := rfl
@[simp] theorem writeIv_status : (writeIv v s).status = s.status := rfl
@[simp] theorem writeIv_a : (writeIv v s).a = s.a := rfl
@[simp] theorem writeIv_b : (writeIv v s).b = s.b := rfl
@[simp] theorem writeIv_key : (writeIv v s).key = s.key := rfl
@[simp] theorem writeIv_iv : (writeIv v s).iv = v := rfl
@[simp] theorem writeIv_chain : (writeIv v s).chain = s.chain := rfl
@[simp] theorem writeIv_result : (writeIv v s).result = s.result := rfl
@[simp] theorem writeIv_rk0 : (writeIv v s).rk0 = s.rk0 := rfl
@[simp] theorem writeIv_rk1 : (writeIv v s).rk1 = s.rk1 := rfl
@[simp] theorem writeIv_rk2 : (writeIv v s).rk2 = s.rk2 := rfl
@[simp] theorem writeIv_wA : (writeIv v s).wA = s.wA := rfl
@[simp] theorem writeIv_wB : (writeIv v s).wB = s.wB := rfl
@[simp] theorem writeIv_wKEY : (writeIv v s).wKEY = s.wKEY := rfl
@[simp] theorem writeIv_wRESULT : (writeIv v s).wRESULT = s.wRESULT := rfl
@[simp] theorem writeIv_wRK : (writeIv v s).wRK = s.wRK := rfl
@[simp] theorem writeIv_trace : (writeIv v s).trace = s.trace := rfl
@[simp] theorem writeIv_responses : (writeIv v s).responses = s.responses := rfl
@[simp] theorem writeIv_inbox : (writeIv v s).inbox = s.inbox := rfl
@[simp] theorem writeIv_config : (writeIv v s).config = s.config := rfl

end writeIv

section writeResult
variable (v : Word) (s : State)

@[simp] theorem writeResult_cmd : (writeResult v s).cmd = s.cmd := rfl
@[simp] theorem writeResult_status : (writeResult v s).status = s.status := rfl
@[simp] theorem writeResult_a : (writeResult v s).a = s.a := rfl
@[simp] theorem writeResult_b : (writeResult v s).b = s.b := rfl
@[simp] theorem writeResult_key : (writeResult v s).key = s.key := rfl
@[simp] theorem writeResult_iv : (writeResult v s).iv = s.iv := rfl
@[simp] theorem writeResult_chain : (writeResult v s).chain = s.chain := rfl
@[simp] theorem writeResult_result : (writeResult v s).result = v := rfl
@[simp] theorem writeResult_rk0 : (writeResult v s).rk0 = s.rk0 := rfl
@[simp] theorem writeResult_rk1 : (writeResult v s).rk1 = s.rk1 := rfl
@[simp] theorem writeResult_rk2 : (writeResult v s).rk2 = s.rk2 := rfl
@[simp] theorem writeResult_wA : (writeResult v s).wA = s.wA := rfl
@[simp] theorem writeResult_wB : (writeResult v s).wB = s.wB := rfl
@[simp] theorem writeResult_wKEY : (writeResult v s).wKEY = s.wKEY := rfl
@[simp] theorem writeResult_wRESULT : (writeResult v s).wRESULT = true := rfl
@[simp] theorem writeResult_wRK : (writeResult v s).wRK = s.wRK := rfl
@[simp] theorem writeResult_trace : (writeResult v s).trace = s.trace := rfl
@[simp] theorem writeResult_responses : (writeResult v s).responses = s.responses := rfl
@[simp] theorem writeResult_inbox : (writeResult v s).inbox = s.inbox := rfl
@[simp] theorem writeResult_config : (writeResult v s).config = s.config := rfl

end writeResult

section writeChain
variable (v : Word) (s : State)

@[simp] theorem writeChain_cmd : (writeChain v s).cmd = s.cmd := rfl
@[simp] theorem writeChain_status : (writeChain v s).status = s.status := rfl
@[simp] theorem writeChain_a : (writeChain v s).a = s.a := rfl
@[simp] theorem writeChain_b : (writeChain v s).b = s.b := rfl
@[simp] theorem writeChain_key : (writeChain v s).key = s.key := rfl
@[simp] theorem writeChain_iv : (writeChain v s).iv = s.iv := rfl
@[simp] theorem writeChain_chain : (writeChain v s).chain = v := rfl
@[simp] theorem writeChain_result : (writeChain v s).result = s.result := rfl
@[simp] theorem writeChain_rk0 : (writeChain v s).rk0 = s.rk0 := rfl
@[simp] theorem writeChain_rk1 : (writeChain v s).rk1 = s.rk1 := rfl
@[simp] theorem writeChain_rk2 : (writeChain v s).rk2 = s.rk2 := rfl
@[simp] theorem writeChain_wA : (writeChain v s).wA = s.wA := rfl
@[simp] theorem writeChain_wB : (writeChain v s).wB = s.wB := rfl
@[simp] theorem writeChain_wKEY : (writeChain v s).wKEY = s.wKEY := rfl
@[simp] theorem writeChain_wRESULT : (writeChain v s).wRESULT = s.wRESULT := rfl
@[simp] theorem writeChain_wRK : (writeChain v s).wRK = s.wRK := rfl
@[simp] theorem writeChain_trace : (writeChain v s).trace = s.trace := rfl
@[simp] theorem writeChain_responses : (writeChain v s).responses = s.responses := rfl
@[simp] theorem writeChain_inbox : (writeChain v s).inbox = s.inbox := rfl
@[simp] theorem writeChain_config : (writeChain v s).config = s.config := rfl

end writeChain

section writeRoundKeys
variable (k0 k1 k2 : Word) (s : State)

@[simp] theorem writeRoundKeys_cmd : (writeRoundKeys k0 k1 k2 s).cmd = s.cmd := rfl
@[simp] theorem writeRoundKeys_status : (writeRoundKeys k0 k1 k2 s).status = s.status := rfl
@[simp] theorem writeRoundKeys_a : (writeRoundKeys k0 k1 k2 s).a = s.a := rfl
@[simp] theorem writeRoundKeys_b : (writeRoundKeys k0 k1 k2 s).b = s.b := rfl
@[simp] theorem writeRoundKeys_key : (writeRoundKeys k0 k1 k2 s).key = s.key := rfl
@[simp] theorem writeRoundKeys_iv : (writeRoundKeys k0 k1 k2 s).iv = s.iv := rfl
@[simp] theorem writeRoundKeys_chain : (writeRoundKeys k0 k1 k2 s).chain = s.chain := rfl
@[simp] theorem writeRoundKeys_result : (writeRoundKeys k0 k1 k2 s).result = s.result := rfl
@[simp] theorem writeRoundKeys_rk0 : (writeRoundKeys k0 k1 k2 s).rk0 = k0 := rfl
@[simp] theorem writeRoundKeys_rk1 : (writeRoundKeys k0 k1 k2 s).rk1 = k1 := rfl
@[simp] theorem writeRoundKeys_rk2 : (writeRoundKeys k0 k1 k2 s).rk2 = k2 := rfl
@[simp] theorem writeRoundKeys_wA : (writeRoundKeys k0 k1 k2 s).wA = s.wA := rfl
@[simp] theorem writeRoundKeys_wB : (writeRoundKeys k0 k1 k2 s).wB = s.wB := rfl
@[simp] theorem writeRoundKeys_wKEY : (writeRoundKeys k0 k1 k2 s).wKEY = s.wKEY := rfl
@[simp] theorem writeRoundKeys_wRESULT : (writeRoundKeys k0 k1 k2 s).wRESULT = s.wRESULT := rfl
@[simp] theorem writeRoundKeys_wRK : (writeRoundKeys k0 k1 k2 s).wRK = true := rfl
@[simp] theorem writeRoundKeys_trace : (writeRoundKeys k0 k1 k2 s).trace = s.trace := rfl
@[simp] theorem writeRoundKeys_responses : (writeRoundKeys k0 k1 k2 s).responses = s.responses := rfl
@[simp] theorem writeRoundKeys_inbox : (writeRoundKeys k0 k1 k2 s).inbox = s.inbox := rfl
@[simp] theorem writeRoundKeys_config : (writeRoundKeys k0 k1 k2 s).config = s.config := rfl

end writeRoundKeys

section emitTrace
variable (rs : List TraceRecord) (s : State)

@[simp] theorem emitTrace_cmd : (emitTrace rs s).cmd = s.cmd := rfl
@[simp] theorem emitTrace_status : (emitTrace rs s).status = s.status := rfl
@[simp] theorem emitTrace_a : (emitTrace rs s).a = s.a := rfl
@[simp] theorem emitTrace_b : (emitTrace rs s).b = s.b := rfl
@[simp] theorem emitTrace_key : (emitTrace rs s).key = s.key := rfl
@[simp] theorem emitTrace_iv : (emitTrace rs s).iv = s.iv := rfl
@[simp] theorem emitTrace_chain : (emitTrace rs s).chain = s.chain := rfl
@[simp] theorem emitTrace_result : (emitTrace rs s).result = s.result := rfl
@[simp] theorem emitTrace_rk0 : (emitTrace rs s).rk0 = s.rk0 := rfl
@[simp] theorem emitTrace_rk1 : (emitTrace rs s).rk1 = s.rk1 := rfl
@[simp] theorem emitTrace_rk2 : (emitTrace rs s).rk2 = s.rk2 := rfl
@[simp] theorem emitTrace_wA : (emitTrace rs s).wA = s.wA := rfl
@[simp] theorem emitTrace_wB : (emitTrace rs s).wB = s.wB := rfl
@[simp] theorem emitTrace_wKEY : (emitTrace rs s).wKEY = s.wKEY := rfl
@[simp] theorem emitTrace_wRESULT : (emitTrace rs s).wRESULT = s.wRESULT := rfl
@[simp] theorem emitTrace_wRK : (emitTrace rs s).wRK = s.wRK := rfl
@[simp] theorem emitTrace_trace : (emitTrace rs s).trace = if s.config.traceEnabled then s.trace ++ rs else s.trace := rfl
@[simp] theorem emitTrace_responses : (emitTrace rs s).responses = s.responses := rfl
@[simp] theorem emitTrace_inbox : (emitTrace rs s).inbox = s.inbox := rfl
@[simp] theorem emitTrace_config : (emitTrace rs s).config = s.config := rfl

end emitTrace

section respond
variable (v : Word) (s : State)

@[simp] theorem respond_cmd : (respond v s).cmd = s.cmd := rfl
@[simp] theorem respond_status : (respond v s).status = s.status := rfl
@[simp] theorem respond_a : (respond v s).a = s.a := rfl
@[simp] theorem respond_b : (respond v s).b = s.b := rfl
@[simp] theorem respond_key : (respond v s).key = s.key := rfl
@[simp] theorem respond_iv : (respond v s).iv = s.iv := rfl
@[simp] theorem respond_chain : (respond v s).chain = s.chain := rfl
@[simp] theorem respond_result : (respond v s).result = s.result := rfl
@[simp] theorem respond_rk0 : (respond v s).rk0 = s.rk0 := rfl
@[simp] theorem respond_rk1 : (respond v s).rk1 = s.rk1 := rfl
@[simp] theorem respond_rk2 : (respond v s).rk2 = s.rk2 := rfl
@[simp] theorem respond_wA : (respond v s).wA = s.wA := rfl
@[simp] theorem respond_wB : (respond v s).wB = s.wB := rfl
@[simp] theorem respond_wKEY : (respond v s).wKEY = s.wKEY := rfl
@[simp] theorem respond_wRESULT : (respond v s).wRESULT = s.wRESULT := rfl
@[simp] theorem respond_wRK : (respond v s).wRK = s.wRK := rfl
@[simp] theorem respond_trace : (respond v s).trace = s.trace := rfl
@[simp] theorem respond_responses : (respond v s).responses = s.responses ++ [v] := rfl
@[simp] theorem respond_inbox : (respond v s).inbox = s.inbox := rfl
@[simp] theorem respond_config : (respond v s).config = s.config := rfl

end respond

section withInbox
variable (rest : List HostInput) (s : State)

@[simp] theorem withInbox_cmd : (withInbox rest s).cmd = s.cmd := rfl
@[simp] theorem withInbox_status : (withInbox rest s).status = s.status := rfl
@[simp] theorem withInbox_a : (withInbox rest s).a = s.a := rfl
@[simp] theorem withInbox_b : (withInbox rest s).b = s.b := rfl
@[simp] theorem withInbox_key : (withInbox rest s).key = s.key := rfl
@[simp] theorem withInbox_iv : (withInbox rest s).iv = s.iv := rfl
@[simp] theorem withInbox_chain : (withInbox rest s).chain = s.chain := rfl
@[simp] theorem withInbox_result : (withInbox rest s).result = s.result := rfl
@[simp] theorem withInbox_rk0 : (withInbox rest s).rk0 = s.rk0 := rfl
@[simp] theorem withInbox_rk1 : (withInbox rest s).rk1 = s.rk1 := rfl
@[simp] theorem withInbox_rk2 : (withInbox rest s).rk2 = s.rk2 := rfl
@[simp] theorem withInbox_wA : (withInbox rest s).wA = s.wA := rfl
@[simp] theorem withInbox_wB : (withInbox rest s).wB = s.wB := rfl
@[simp] theorem withInbox_wKEY : (withInbox rest s).wKEY = s.wKEY := rfl
@[simp] theorem withInbox_wRESULT : (withInbox rest s).wRESULT = s.wRESULT := rfl
@[simp] theorem withInbox_wRK : (withInbox rest s).wRK = s.wRK := rfl
@[simp] theorem withInbox_trace : (withInbox rest s).trace = s.trace := rfl
@[simp] theorem withInbox_responses : (withInbox rest s).responses = s.responses := rfl
@[simp] theorem withInbox_inbox : (withInbox rest s).inbox = rest := rfl
@[simp] theorem withInbox_config : (withInbox rest s).config = s.config := rfl

end withInbox

section sendNext
variable (x : HostInput) (s : State)

@[simp] theorem sendNext_cmd : (sendNext x s).cmd = s.cmd := rfl
@[simp] theorem sendNext_status : (sendNext x s).status = s.status := rfl
@[simp] theorem sendNext_a : (sendNext x s).a = s.a := rfl
@[simp] theorem sendNext_b : (sendNext x s).b = s.b := rfl
@[simp] theorem sendNext_key : (sendNext x s).key = s.key := rfl
@[simp] theorem sendNext_iv : (sendNext x s).iv = s.iv := rfl
@[simp] theorem sendNext_chain : (sendNext x s).chain = s.chain := rfl
@[simp] theorem sendNext_result : (sendNext x s).result = s.result := rfl
@[simp] theorem sendNext_rk0 : (sendNext x s).rk0 = s.rk0 := rfl
@[simp] theorem sendNext_rk1 : (sendNext x s).rk1 = s.rk1 := rfl
@[simp] theorem sendNext_rk2 : (sendNext x s).rk2 = s.rk2 := rfl
@[simp] theorem sendNext_wA : (sendNext x s).wA = s.wA := rfl
@[simp] theorem sendNext_wB : (sendNext x s).wB = s.wB := rfl
@[simp] theorem sendNext_wKEY : (sendNext x s).wKEY = s.wKEY := rfl
@[simp] theorem sendNext_wRESULT : (sendNext x s).wRESULT = s.wRESULT := rfl
@[simp] theorem sendNext_wRK : (sendNext x s).wRK = s.wRK := rfl
@[simp] theorem sendNext_trace : (sendNext x s).trace = s.trace := rfl
@[simp] theorem sendNext_responses : (sendNext x s).responses = s.responses := rfl
@[simp] theorem sendNext_inbox : (sendNext x s).inbox = x :: s.inbox := rfl
@[simp] theorem sendNext_config : (sendNext x s).config = s.config := rfl

end sendNext

section sendScript
variable (ws : List TxnWord) (s : State)

@[simp] theorem sendScript_cmd : (sendScript ws s).cmd = s.cmd := rfl
@[simp] theorem sendScript_status : (sendScript ws s).status = s.status := rfl
@[simp] theorem sendScript_a : (sendScript ws s).a = s.a := rfl
@[simp] theorem sendScript_b : (sendScript ws s).b = s.b := rfl
@[simp] theorem sendScript_key : (sendScript ws s).key = s.key := rfl
@[simp] theorem sendScript_iv : (sendScript ws s).iv = s.iv := rfl
@[simp] theorem sendScript_chain : (sendScript ws s).chain = s.chain := rfl
@[simp] theorem sendScript_result : (sendScript ws s).result = s.result := rfl
@[simp] theorem sendScript_rk0 : (sendScript ws s).rk0 = s.rk0 := rfl
@[simp] theorem sendScript_rk1 : (sendScript ws s).rk1 = s.rk1 := rfl
@[simp] theorem sendScript_rk2 : (sendScript ws s).rk2 = s.rk2 := rfl
@[simp] theorem sendScript_wA : (sendScript ws s).wA = s.wA := rfl
@[simp] theorem sendScript_wB : (sendScript ws s).wB = s.wB := rfl
@[simp] theorem sendScript_wKEY : (sendScript ws s).wKEY = s.wKEY := rfl
@[simp] theorem sendScript_wRESULT : (sendScript ws s).wRESULT = s.wRESULT := rfl
@[simp] theorem sendScript_wRK : (sendScript ws s).wRK = s.wRK := rfl
@[simp] theorem sendScript_trace : (sendScript ws s).trace = s.trace := rfl
@[simp] theorem sendScript_responses : (sendScript ws s).responses = s.responses := rfl
@[simp] theorem sendScript_inbox : (sendScript ws s).inbox = s.inbox ++ ws.map HostInput.txn := rfl
@[simp] theorem sendScript_config : (sendScript ws s).config = s.config := rfl

end sendScript

section resetCore
variable (s : State)

@[simp] theorem resetCore_cmd : (resetCore s).cmd = 0x0000#16 := rfl
@[simp] theorem resetCore_status : (resetCore s).status = 0x0000#16 := rfl
@[simp] theorem resetCore_a : (resetCore s).a = 0x0000#16 := rfl
@[simp] theorem resetCore_b : (resetCore s).b = 0x0000#16 := rfl
@[simp] theorem resetCore_key : (resetCore s).key = 0x0000#16 := rfl
@[simp] theorem resetCore_iv : (resetCore s).iv = 0xFFFF#16 := rfl
@[simp] theorem resetCore_chain : (resetCore s).chain = 0xFFFF#16 := rfl
@[simp] theorem resetCore_result : (resetCore s).result = 0x0000#16 := rfl
@[simp] theorem resetCore_rk0 : (resetCore s).rk0 = 0x0000#16 := rfl
@[simp] theorem resetCore_rk1 : (resetCore s).rk1 = 0x0000#16 := rfl
@[simp] theorem resetCore_rk2 : (resetCore s).rk2 = 0x0000#16 := rfl
@[simp] theorem resetCore_wA : (resetCore s).wA = false := rfl
@[simp] theorem resetCore_wB : (resetCore s).wB = false := rfl
@[simp] theorem resetCore_wKEY : (resetCore s).wKEY = false := rfl
@[simp] theorem resetCore_wRESULT : (resetCore s).wRESULT = false := rfl
@[simp] theorem resetCore_wRK : (resetCore s).wRK = false := rfl
@[simp] theorem resetCore_trace : (resetCore s).trace = [] := rfl
@[simp] theorem resetCore_responses : (resetCore s).responses = s.responses := rfl
@[simp] theorem resetCore_inbox : (resetCore s).inbox = s.inbox := rfl
@[simp] theorem resetCore_config : (resetCore s).config = s.config := rfl

end resetCore

end Sys2Proof.Machine
end

