-- ==== Sys2Proof/Laws/Ops.lean ====
section
/-! SUPPORT. Operand forms, the address map and STATUS: what each shared operation can do, said once. -/

namespace Sys2Proof.Machine

@[simp] theorem toBlock_fromBlock (s : Block) : toBlock (fromBlock s) = s := by
  obtain ⟨p, q, r, t⟩ := s
  simp only [toBlock, Block.mk.injEq]
  refine ⟨?_, ?_, ?_, ?_⟩
  · apply BitVec.eq_of_getLsbD_eq
    intro i hi
    change BitVec.getLsbD (BitVec.extractLsb' 12 4 (p ++ q ++ r ++ t)) i = _
    simp only [BitVec.getLsbD_append, BitVec.getLsbD_extractLsb']
    interval_cases i <;> simp
  · apply BitVec.eq_of_getLsbD_eq
    intro i hi
    change BitVec.getLsbD (BitVec.extractLsb' 8 4 (p ++ q ++ r ++ t)) i = _
    simp only [BitVec.getLsbD_append, BitVec.getLsbD_extractLsb']
    interval_cases i <;> simp
  · apply BitVec.eq_of_getLsbD_eq
    intro i hi
    change BitVec.getLsbD (BitVec.extractLsb' 4 4 (p ++ q ++ r ++ t)) i = _
    simp only [BitVec.getLsbD_append, BitVec.getLsbD_extractLsb']
    interval_cases i <;> simp
  · apply BitVec.eq_of_getLsbD_eq
    intro i hi
    change BitVec.getLsbD (BitVec.extractLsb' 0 4 (p ++ q ++ r ++ t)) i = _
    simp only [BitVec.getLsbD_append, BitVec.getLsbD_extractLsb']
    interval_cases i <;> simp

@[simp] theorem fromBlock_toBlock (w : Word) : fromBlock (toBlock w) = w := by
  apply BitVec.eq_of_getLsbD_eq
  intro i hi
  change BitVec.getLsbD
    (w.extractLsb' 12 4 ++ w.extractLsb' 8 4 ++ w.extractLsb' 4 4 ++ w.extractLsb' 0 4) i = _
  simp only [BitVec.getLsbD_append, BitVec.getLsbD_extractLsb']
  interval_cases i <;> simp

@[simp] theorem regAt_regAddr (r : Reg) : regAt (regAddr r) = some r := by cases r <;> rfl

theorem regAddr_of_regAt : ∀ (addr : RegAddr) (r : Reg), regAt addr = some r → regAddr r = addr := by decide

theorem regAt_eq_none_iff : ∀ addr : RegAddr, regAt addr = none ↔ 0xB ≤ addr.toNat := by decide

/-- Once recorded, an error stays (R271). -/
theorem recordError_of_err {status : Word} (e : ErrorCode) (h : statusErr status = true) :
    recordError e status = status := by simp [recordError, h]

theorem recordError_of_clear {status : Word} (e : ErrorCode) (h : statusErr status = false) :
    recordError e status = statusOfError e := by simp [recordError, h]

@[simp] theorem statusErr_statusOfError (e : ErrorCode) : statusErr (statusOfError e) = true := by cases e <;> rfl

@[simp] theorem statusErr_recordError (e : ErrorCode) (status : Word) : statusErr (recordError e status) = true := by
  unfold recordError
  split
  · assumption
  · simp

end Sys2Proof.Machine
end

