-- ==== Sys2Proof/Laws/Exec.lean ====
section
/-! SUPPORT. The meanings in terms of the dispatcher, what a command and a bus transaction can change, and programs. -/

namespace Sys2Proof.Machine

/-- A command row stores its word in CMD and has the command's effect (R253). -/
theorem exec_command (c : Command) (s : State) :
    exec c.toInstr s = .next (doCommand c (storeCmd (encodeCmd c) s)) := by cases c <;> rfl

theorem exec_rd (addr : RegAddr) (s : State) : exec (.rd addr) s = .next (busRead addr s) := rfl

theorem exec_wr (addr : RegAddr) (v : Word) (s : State) : exec (.wr addr v) s = .next (busWrite addr v s) := rfl

/-- An instruction is a command, a read or a write. -/
theorem instr_cases (i : Instr) :
    (∃ c : Command, i = c.toInstr) ∨ (∃ addr, i = .rd addr) ∨ ∃ addr v, i = .wr addr v := by
  cases i with
  | rd addr => exact .inr (.inl ⟨addr, rfl⟩)
  | wr addr v => exact .inr (.inr ⟨addr, v, rfl⟩)
  | nop => exact .inl ⟨.nop, rfl⟩
  | gfadd => exact .inl ⟨.gfadd, rfl⟩
  | gfmul => exact .inl ⟨.gfmul, rfl⟩
  | subnib => exact .inl ⟨.subnib, rfl⟩
  | invsubnib => exact .inl ⟨.invsubnib, rfl⟩
  | shiftrows => exact .inl ⟨.shiftrows, rfl⟩
  | mixcol => exact .inl ⟨.mixcol, rfl⟩
  | addrk => exact .inl ⟨.addrk, rfl⟩
  | expandkey => exact .inl ⟨.expandkey, rfl⟩
  | encrypt => exact .inl ⟨.encrypt, rfl⟩
  | decrypt => exact .inl ⟨.decrypt, rfl⟩
  | cbcinit => exact .inl ⟨.cbcinit, rfl⟩
  | cbcenc => exact .inl ⟨.cbcenc, rfl⟩
  | cbcdec => exact .inl ⟨.cbcdec, rfl⟩

section doCommand
variable (c : Command) (s : State)

@[simp] theorem doCommand_cmd : (doCommand c s).cmd = s.cmd := by cases c <;> rfl
@[simp] theorem doCommand_status : (doCommand c s).status = s.status := by cases c <;> rfl
@[simp] theorem doCommand_a : (doCommand c s).a = s.a := by cases c <;> rfl
@[simp] theorem doCommand_b : (doCommand c s).b = s.b := by cases c <;> rfl
@[simp] theorem doCommand_key : (doCommand c s).key = s.key := by cases c <;> rfl
@[simp] theorem doCommand_iv : (doCommand c s).iv = s.iv := by cases c <;> rfl
@[simp] theorem doCommand_wA : (doCommand c s).wA = s.wA := by cases c <;> rfl
@[simp] theorem doCommand_wB : (doCommand c s).wB = s.wB := by cases c <;> rfl
@[simp] theorem doCommand_wKEY : (doCommand c s).wKEY = s.wKEY := by cases c <;> rfl
@[simp] theorem doCommand_responses : (doCommand c s).responses = s.responses := by cases c <;> rfl
@[simp] theorem doCommand_inbox : (doCommand c s).inbox = s.inbox := by cases c <;> rfl
@[simp] theorem doCommand_config : (doCommand c s).config = s.config := by cases c <;> rfl

end doCommand

/-- What a host write to CMD does: the command of a legal word, or the recorded error (R253). -/
theorem performCmd_cases (v : Word) (s : State) :
    (∃ c : Command, decodeCmd v = .ok c ∧ performCmd v s = doCommand c (storeCmd v s)) ∨
    (decodeCmd v = .error .illegalCommand ∧ performCmd v s = raiseError .illegalCmd (storeCmd v s)) := by
  unfold performCmd
  cases h : decodeCmd v with
  | ok c => exact .inl ⟨c, rfl, rfl⟩
  | error e => exact .inr ⟨by rw [decodeCmd_error h], rfl⟩

/-- What `BusRead` does (R250). -/
theorem busRead_cases (addr : RegAddr) (s : State) :
    (∃ r : Reg, regAt addr = some r ∧ busRead addr s = respond (readReg r s) s) ∨
    (regAt addr = none ∧ busRead addr s = respond 0x0000#16 (raiseError .badAddr s)) := by
  unfold busRead
  cases h : regAt addr with
  | some r => exact .inl ⟨r, rfl, rfl⟩
  | none => exact .inr ⟨rfl, rfl⟩

/-- What `BusWrite` does (R251). -/
theorem busWrite_cases (addr : RegAddr) (v : Word) (s : State) :
    (regAt addr = none ∧ busWrite addr v s = raiseError .badAddr s) ∨
    (addr = 0x0#4 ∧ busWrite addr v s = performCmd v s) ∨
    (addr = 0x2#4 ∧ busWrite addr v s = writeA v s) ∨
    (addr = 0x3#4 ∧ busWrite addr v s = writeB v s) ∨
    (addr = 0x4#4 ∧ busWrite addr v s = writeKey v s) ∨
    (addr = 0x5#4 ∧ busWrite addr v s = writeIv v s) ∨
    (∃ r ∈ [Reg.status, .chain, .result, .rk0, .rk1, .rk2], addr = regAddr r ∧
      busWrite addr v s = raiseError .roWrite s) := by
  unfold busWrite
  cases h : regAt addr with
  | none => simp
  | some r =>
    have hr := regAddr_of_regAt addr r h
    subst hr
    cases r <;> simp [regAddr]

@[simp] theorem busWrite_regAddr_a (v : Word) (s : State) : busWrite (regAddr .a) v s = writeA v s := rfl
@[simp] theorem busWrite_regAddr_b (v : Word) (s : State) : busWrite (regAddr .b) v s = writeB v s := rfl
@[simp] theorem busWrite_regAddr_key (v : Word) (s : State) : busWrite (regAddr .key) v s = writeKey v s := rfl
@[simp] theorem busWrite_regAddr_iv (v : Word) (s : State) : busWrite (regAddr .iv) v s = writeIv v s := rfl
@[simp] theorem busWrite_regAddr_cmd (v : Word) (s : State) : busWrite (regAddr .cmd) v s = performCmd v s := rfl

@[simp] theorem performCmd_encodeCmd (c : Command) (s : State) :
    performCmd (encodeCmd c) s = doCommand c (storeCmd (encodeCmd c) s) := by simp [performCmd]

@[simp] theorem andThen_next (s : State) (f : State → StepResult) : andThen (.next s) f = f s := rfl
@[simp] theorem andThen_fault (r : Fault) (f : State → StepResult) : andThen (.fault r) f = .fault r := rfl
@[simp] theorem andThen_refused (r : Refusal) (f : State → StepResult) : andThen (.refused r) f = .refused r := rfl

/-- Sequences nest to the right. -/
theorem andThen_assoc (o : StepResult) (f g : State → StepResult) :
    andThen (andThen o f) g = andThen o fun s => andThen (f s) g := by cases o <;> rfl

/-- Going on with nothing more to do. -/
@[simp] theorem andThen_done (o : StepResult) : andThen o .next = o := by cases o <;> rfl

@[simp] theorem runInstrs_nil (s : State) : runInstrs [] s = .next s := rfl

/-- A program's first instruction, then the rest. -/
theorem runInstrs_cons {i : Instr} {s t : State} (is : List Instr) (h : exec i s = .next t) :
    runInstrs (i :: is) s = runInstrs is t := by simp [runInstrs, h]

/-- A program in two parts, whatever the first part ends in. -/
theorem runInstrs_append_andThen (is js : List Instr) (s : State) :
    runInstrs (is ++ js) s = andThen (runInstrs is s) (runInstrs js) := by
  induction is generalizing s with
  | nil => rfl
  | cons i is ih => simp only [List.cons_append, runInstrs, andThen_assoc, funext ih]

/-- A program in two parts. -/
theorem runInstrs_append {is : List Instr} {s t : State} (js : List Instr) (h : runInstrs is s = .next t) :
    runInstrs (is ++ js) s = runInstrs js t := by rw [runInstrs_append_andThen, h, andThen_next]

/-- A checked program in two parts, whatever the first part ends in. -/
theorem checkedRunInstrs_append (is js : List Instr) (s : State) :
    checkedRunInstrs (is ++ js) s = andThen (checkedRunInstrs is s) (checkedRunInstrs js) := by
  induction is generalizing s with
  | nil => rfl
  | cons i is ih => simp only [List.cons_append, checkedRunInstrs, andThen_assoc, funext ih]

/-- A checked run in two parts, whatever the first part ends in. -/
theorem checkedRunSteps_add (n m : Nat) (s : State) :
    checkedRunSteps (n + m) s = andThen (checkedRunSteps n s) (checkedRunSteps m) := by
  induction n generalizing s with
  | zero => simp [checkedRunSteps]
  | succ n ih => simp only [Nat.succ_add, checkedRunSteps, andThen_assoc, funext ih]

end Sys2Proof.Machine
end

