-- ==== Sys2Proof/Laws/PerInstr.lean ====
section
/-! SUPPORT. Statements made for each instruction, one lemma per constructor.
`IssueWord`: the transaction word that issues an instruction is a transaction of R88, and it is the host access the
spec names for it: RD for a read, WR for a write, and WR to CMD for a command (R91). -/

namespace Sys2Proof.Laws.IssueWord

/-- The bus transaction an instruction is. -/
def transactionOf : Instr → Instr
  | .nop => .wr 0x0#4 0x0000#16
  | .gfadd => .wr 0x0#4 0x0001#16
  | .gfmul => .wr 0x0#4 0x0002#16
  | .subnib => .wr 0x0#4 0x0003#16
  | .invsubnib => .wr 0x0#4 0x0004#16
  | .shiftrows => .wr 0x0#4 0x0005#16
  | .mixcol => .wr 0x0#4 0x0006#16
  | .addrk => .wr 0x0#4 0x0007#16
  | .expandkey => .wr 0x0#4 0x0008#16
  | .encrypt => .wr 0x0#4 0x0009#16
  | .decrypt => .wr 0x0#4 0x000A#16
  | .cbcinit => .wr 0x0#4 0x000B#16
  | .cbcenc => .wr 0x0#4 0x000C#16
  | .cbcdec => .wr 0x0#4 0x000D#16
  | .rd addr => .rd addr
  | .wr addr data => .wr addr data

def Statement (i : Instr) : Prop := decodeTxn (issueWord (encode i)) = .ok (transactionOf i)

theorem nop : Statement .nop := by rfl
theorem gfadd : Statement .gfadd := by rfl
theorem gfmul : Statement .gfmul := by rfl
theorem subnib : Statement .subnib := by rfl
theorem invsubnib : Statement .invsubnib := by rfl
theorem shiftrows : Statement .shiftrows := by rfl
theorem mixcol : Statement .mixcol := by rfl
theorem addrk : Statement .addrk := by rfl
theorem expandkey : Statement .expandkey := by rfl
theorem encrypt : Statement .encrypt := by rfl
theorem decrypt : Statement .decrypt := by rfl
theorem cbcinit : Statement .cbcinit := by rfl
theorem cbcenc : Statement .cbcenc := by rfl
theorem cbcdec : Statement .cbcdec := by rfl
theorem rd (addr : RegAddr) : Statement (.rd addr) := decodeTxn_encodeRead addr
theorem wr (addr : RegAddr) (data : Word) : Statement (.wr addr data) := decodeTxn_encodeWrite addr data

end Sys2Proof.Laws.IssueWord
end

