-- ==== Sys2Proof/Laws/SBox.lean ====
section
/-! SUPPORT. The S-box and its inverse (`41_round_transforms.md` R131, R132). -/

namespace Sys2Proof.Machine

/-- An S-box never sends two nibbles to one (R132). -/
theorem sboxForward_injective (sb : SBox) : Function.Injective (sboxForward sb) := by
  intro x y h
  have hx : x.toNat < sb.table.toList.length := by simpa using x.isLt
  have hy : y.toNat < sb.table.toList.length := by simpa using y.isLt
  have h' : sb.table.toList[x.toNat] = sb.table.toList[y.toNat] := by
    simpa [sboxForward] using h
  exact BitVec.eq_of_toNat_eq ((sb.perm.getElem_inj_iff).1 h')

/-- Every nibble stands in an S-box. -/
theorem sboxForward_surjective (sb : SBox) : Function.Surjective (sboxForward sb) :=
  Finite.injective_iff_surjective.1 (sboxForward_injective sb)

theorem mem_allNibbles (x : Nibble) : x ∈ allNibbles := by revert x; decide

/-- The search of R131 finds the nibble it looks for. -/
theorem sboxForward_inverse (sb : SBox) (y : Nibble) : sboxForward sb (sboxInverse sb y) = y := by
  obtain ⟨x, hx⟩ := sboxForward_surjective sb y
  unfold sboxInverse
  cases hf : allNibbles.find? fun x => sboxForward sb x == y with
  | none => exact absurd hx (by simpa using List.find?_eq_none.1 hf x (mem_allNibbles x))
  | some z => simpa using List.find?_some hf

theorem sboxInverse_forward (sb : SBox) (x : Nibble) : sboxInverse sb (sboxForward sb x) = x :=
  sboxForward_injective sb (sboxForward_inverse sb _)

end Sys2Proof.Machine
end

