-- ==== Sys2Proof/Laws/Step.lean ====
section
/-! SUPPORT. What a step does, by the host's next input. -/

namespace Sys2Proof.Machine

/-- Everything a step can do: idle, reset, perform a transaction, or refuse a word that is none. -/
theorem step_cases (s : State) :
    (s.inbox = [] ∧ step s = .next s) ∨
    (∃ rest, s.inbox = .reset :: rest ∧ step s = .next (resetCore (withInbox rest s))) ∨
    (∃ w rest i, s.inbox = .txn w :: rest ∧ decodeTxn w = .ok i ∧ step s = exec i (withInbox rest s)) ∨
    (∃ w rest e, s.inbox = .txn w :: rest ∧ decodeTxn w = .error e ∧ step s = .refused (.notATransaction e)) := by
  unfold step
  split
  · rename_i h
    exact .inl ⟨h, rfl⟩
  · rename_i rest h
    exact .inr (.inl ⟨rest, h, rfl⟩)
  · rename_i w rest h
    cases hd : decodeTxn w with
    | ok i => exact .inr (.inr (.inl ⟨w, rest, i, h, hd, by simp⟩))
    | error e => exact .inr (.inr (.inr ⟨w, rest, e, h, hd, by simp⟩))

/-- The checked meaning when no operand is unwritten. -/
theorem checkedExec_of_written {i : Instr} {s : State} (h : unwrittenOperand i s = none) :
    checkedExec i s = exec i s := by simp [checkedExec, h]

/-- The checked meaning when an operand is unwritten. -/
theorem checkedExec_of_unwritten {i : Instr} {s : State} {r : Reg} (h : unwrittenOperand i s = some r) :
    checkedExec i s = .fault (.unwrittenRead r) := by simp [checkedExec, h]

/-- The named operand is one the instruction reads, and its flag is clear. -/
theorem unwrittenOperand_some {i : Instr} {s : State} {r : Reg} (h : unwrittenOperand i s = some r) :
    r ∈ operandRegs i ∧ writtenFlag r s = false := by
  have h1 := List.mem_of_find?_eq_some h
  have h2 := List.find?_some h
  exact ⟨h1, by simpa using h2⟩

/-- Everything the checked step can do: the checked meaning of the next transaction, or the step where there is none. -/
theorem checkedStep_cases (s : State) :
    (∃ w rest i, s.inbox = .txn w :: rest ∧ decodeTxn w = .ok i ∧ checkedStep s = checkedExec i (withInbox rest s)) ∨
    ((∀ w rest i, s.inbox = .txn w :: rest → decodeTxn w ≠ .ok i) ∧ checkedStep s = step s) := by
  unfold checkedStep
  split
  · rename_i w rest h
    cases hd : decodeTxn w with
    | ok i => exact .inl ⟨w, rest, i, h, hd, rfl⟩
    | error e =>
      refine .inr ⟨fun w' rest' i h' => ?_, rfl⟩
      rw [h] at h'
      cases h'
      simp [hd]
  · rename_i h
    exact .inr ⟨fun w rest i h' => absurd h' (h w rest), rfl⟩

/-- No unwritten operand: every register the instruction reads was written. -/
theorem unwrittenOperand_none {i : Instr} {s : State} (h : ∀ r ∈ operandRegs i, writtenFlag r s = true) :
    unwrittenOperand i s = none := by
  simp only [unwrittenOperand, List.find?_eq_none]
  intro r hr
  simp [h r hr]

/-- An unwritten operand: some register the instruction reads was not written. -/
theorem unwrittenOperand_ne_none {i : Instr} {s : State} (h : ∃ r ∈ operandRegs i, writtenFlag r s = false) :
    ∃ r, unwrittenOperand i s = some r := by
  obtain ⟨r, hr, hw⟩ := h
  cases hu : unwrittenOperand i s with
  | some r' => exact ⟨r', rfl⟩
  | none =>
    have := List.find?_eq_none.1 hu r hr
    simp [hw] at this

/-- The checked meaning faults exactly on an unwritten operand. -/
theorem checkedExec_fault_iff {i : Instr} {s : State} {r : Reg} (hx : ∀ f, exec i s ≠ .fault f) :
    checkedExec i s = .fault (.unwrittenRead r) ↔ unwrittenOperand i s = some r := by
  unfold checkedExec
  split
  · rename_i r' h
    rw [h]
    constructor
    · intro e; cases e; rfl
    · intro e; cases e; rfl
  · rename_i h
    simp [h, hx]

/-- A command row and the host write of its word to CMD read the same registers. -/
theorem operandRegs_command (c : Command) : operandRegs c.toInstr = commandOperands c := by cases c <;> rfl

@[simp] theorem operandRegs_write_command (c : Command) : operandRegs (.wr 0x0#4 (encodeCmd c)) = commandOperands c := by
  cases c <;> rfl

end Sys2Proof.Machine
end

