-- ==== Sys2Proof/Tests/Slice0.lean ====
section
/-! SUPPORT. The model's own tests. Expected values are those of `spec/95_test_vectors.md` (named V<n>, P<n>), of the
examples in the rules, or words written out from `30_encoding.md`. The last part holds a witness for each statement
that has hypotheses. -/

namespace Sys2Proof.Tests

open Sys2Proof.Machine Sys2Proof.Safety

/-! ## WellFormed: an ill-formed term for each check, refused -/

/-- OP 0xE and 0xF are illegal, 0xD is not (R84). -/
theorem test_illegal_opcode_refused :
    legalCmdWord 0x000E#16 = false ∧ legalCmdWord 0x000F#16 = false ∧ legalCmdWord 0x000D#16 = true := by decide

/-- OP 9 with RSVD nonzero is illegal (V12). -/
theorem test_nonzero_rsvd_refused : legalCmdWord 0x0019#16 = false ∧ legalCmdWord 0x8000#16 = false := by decide

/-- Z nonzero is no transaction (R88). -/
theorem test_nonzero_z_refused : legalTxnWord 0x94C3F0#24 = false ∧ legalTxnWord 0x84C3F0#24 = true := by decide

/-- A read with DATA is no transaction (R88). -/
theorem test_read_with_data_refused : legalTxnWord 0x070001#24 = false ∧ legalTxnWord 0x070000#24 = true := by decide

/-- A table with a repeat: 0x0 stands in it twice and 0x7 never. -/
def repeatingTable : Vector Nibble 16 :=
  #v[0xE, 0x4, 0xD, 0x1, 0x2, 0xF, 0xB, 0x8, 0x3, 0xA, 0x6, 0xC, 0x5, 0x9, 0x0, 0x0]

/-- A table that is not a permutation is no SBOX (R132). -/
theorem test_non_permutation_refused :
    legalSBoxTable repeatingTable = false ∧ (sboxOfTable repeatingTable).isNone = true := by decide

/-- Every instruction is well formed. -/
theorem test_instr_well_formed : (Instr.wr 0xF#4 0xFFFF#16).wellFormed = true := by decide

/-! ## Decode: every row's word, bit by bit (R81, R82, R88) -/

theorem test_decode_nop : decode (.cmd16 0b0000000000000000#16) = .ok .nop := by rfl
theorem test_decode_gfadd : decode (.cmd16 0b0000000000000001#16) = .ok .gfadd := by rfl
theorem test_decode_gfmul : decode (.cmd16 0b0000000000000010#16) = .ok .gfmul := by rfl
theorem test_decode_subnib : decode (.cmd16 0b0000000000000011#16) = .ok .subnib := by rfl
theorem test_decode_invsubnib : decode (.cmd16 0b0000000000000100#16) = .ok .invsubnib := by rfl
theorem test_decode_shiftrows : decode (.cmd16 0b0000000000000101#16) = .ok .shiftrows := by rfl
theorem test_decode_mixcol : decode (.cmd16 0b0000000000000110#16) = .ok .mixcol := by rfl
theorem test_decode_addrk : decode (.cmd16 0b0000000000000111#16) = .ok .addrk := by rfl
theorem test_decode_expandkey : decode (.cmd16 0b0000000000001000#16) = .ok .expandkey := by rfl
theorem test_decode_encrypt : decode (.cmd16 0b0000000000001001#16) = .ok .encrypt := by rfl
theorem test_decode_decrypt : decode (.cmd16 0b0000000000001010#16) = .ok .decrypt := by rfl
theorem test_decode_cbcinit : decode (.cmd16 0b0000000000001011#16) = .ok .cbcinit := by rfl
theorem test_decode_cbcenc : decode (.cmd16 0b0000000000001100#16) = .ok .cbcenc := by rfl
theorem test_decode_cbcdec : decode (.cmd16 0b0000000000001101#16) = .ok .cbcdec := by rfl

/-- `rd RK1`: W 0, Z 000, ADDR 1001, DATA zero. -/
theorem test_decode_rd : decode (.txn24 0b000010010000000000000000#24) = .ok (.rd 0x9#4) := by rfl

/-- `wr B, 0x30FF`: W 1, Z 000, ADDR 0011, DATA 0011 0000 1111 1111. -/
theorem test_decode_wr : decode (.txn24 0b100000110011000011111111#24) = .ok (.wr 0x3#4 0x30FF#16) := by rfl

/-- The examples of R88. -/
theorem test_encode_examples :
    encode (.wr 0x4#4 0xC3F0#16) = .txn24 0x84C3F0#24 ∧ encode (.rd 0x7#4) = .txn24 0x070000#24 ∧
    issueWord (encode .encrypt) = 0x800009#24 := by decide

/-- Reserved encodings are refused by name. -/
theorem test_decode_refusals :
    decode (.cmd16 0x000E#16) = .error .illegalCommand ∧ decode (.cmd16 0x0019#16) = .error .illegalCommand ∧
    decode (.txn24 0x94C3F0#24) = .error .reservedBitsSet ∧ decode (.txn24 0x070001#24) = .error .readWithData :=
  ⟨rfl, rfl, rfl, rfl⟩

/-- The table's numbering: 16 bits is a command word, 24 bits a transaction word, no other length exists. -/
theorem test_decode_table_word :
    decodeTableWord 16 0x0009 = some .encrypt ∧ decodeTableWord 24 0x84C3F0 = some (.wr 0x4#4 0xC3F0#16) ∧
    decodeTableWord 16 0x000E = none ∧ decodeTableWord 8 0x09 = none := by decide

/-! ## The instructions -/

/-- A core with its operands written. -/
def coreWith (a b key chain : Word) : State :=
  { State.reset with a := a, b := b, key := key, chain := chain, wA := true, wB := true, wKEY := true }

/-- A field after one instruction. -/
def after (f : State → Word) (i : Instr) (s : State) : Option Word :=
  match exec i s with
  | .next t => some (f t)
  | _ => none

/-- The value the host reads. -/
def readBack (addr : RegAddr) (s : State) : Option Word :=
  match exec (.rd addr) s with
  | .next t => t.responses.getLast?
  | _ => none

theorem test_nop_keeps_result : after State.result .nop { State.reset with result := 0x1234#16 } = some 0x1234#16 := by
  decide

/-- V3. -/
theorem test_gfadd_ignores_high_bits : after State.result .gfadd (coreWith 0xFFF3 0x0007 0 0) = some 0x0004#16 := by
  decide

/-- V3. -/
theorem test_gfmul_ignores_high_bits : after State.result .gfmul (coreWith 0xFFF3 0x0007 0 0) = some 0x0009#16 := by
  decide

/-- The iterations of R114's example. -/
theorem test_gfmul_passes :
    gmulPass ⟨0, 9, 14⟩ = ⟨0, 1, 7⟩ ∧ gmulPass ⟨0, 1, 7⟩ = ⟨1, 2, 3⟩ ∧ gmulPass ⟨1, 2, 3⟩ = ⟨3, 4, 1⟩ ∧
    gmulPass ⟨3, 4, 1⟩ = ⟨7, 8, 0⟩ := by decide

/-- V5. -/
theorem test_subnib : after State.result .subnib (coreWith 0x89AB 0 0 0) = some 0x3A6C#16 := by decide

/-- V5. -/
theorem test_invsubnib : after State.result .invsubnib (coreWith 0x4567 0 0 0) = some 0x1CAF#16 := by decide

/-- V5. -/
theorem test_shiftrows : after State.result .shiftrows (coreWith 0x4567 0 0 0) = some 0x4765#16 := by decide

/-- V5. -/
theorem test_mixcol : after State.result .mixcol (coreWith 0xF1A7 0 0 0) = some 0x0E3E#16 := by decide

/-- V5: the key comes from B, not from KEY. -/
theorem test_addrk : after State.result .addrk (coreWith 0x9C63 0xC3F0 0xFFFF 0) = some 0x5F93#16 := by decide

/-- V6. -/
theorem test_expandkey_rk1 : after State.rk1 .expandkey (coreWith 0 0 0x1234 0) = some 0x2037#16 := by decide

/-- V6. -/
theorem test_expandkey_rk2 : after State.rk2 .expandkey (coreWith 0 0 0x1234 0) = some 0x88BC#16 := by decide

/-- W1, the source's known vector. -/
theorem test_encrypt_known_vector : after State.result .encrypt (coreWith 0x9C63 0 0xC3F0 0) = some 0x72C6#16 := by
  decide

/-- The trace log after one instruction. -/
def traceAfter (i : Instr) (s : State) : List TraceRecord :=
  match exec i s with
  | .next t => t.trace
  | _ => []

/-- The core `s` built with TRACE_ENABLED. -/
def traced (s : State) : State := { s with config := { s.config with traceEnabled := true } }

/-- V7, W1: the decrypt records in order. -/
theorem test_decrypt_trace :
    traceAfter .decrypt (traced (coreWith 0x72C6 0 0xC3F0 0)) =
      [⟨.ark2, 0x1450⟩, ⟨.isr2, 0x1054⟩, ⟨.isn2, 0x3EC1⟩, ⟨.ark1, 0x0E3E⟩,
       ⟨.imc1, 0xF1A7⟩, ⟨.isr1, 0xF7A1⟩, ⟨.isn1, 0x5F93⟩, ⟨.ark0, 0x9C63⟩] := by decide

/-- V8: DECRYPT is not ENCRYPT. -/
theorem test_decrypt_zero : after State.result .decrypt (coreWith 0 0 0 0) = some 0xBDBD#16 := by decide

/-- R211. -/
theorem test_cbcinit : after State.chain .cbcinit { coreWith 0 0 0 0xABCD with iv := 0x1234#16 } = some 0x1234#16 := by
  decide

/-- V10, row 1, second block. -/
theorem test_cbcenc_chains : after State.chain .cbcenc (coreWith 0x0000 0 0xC3F0 0x7A97) = some 0xEE28#16 := by decide

/-- R213: the consumed ciphertext goes to CHAIN. -/
theorem test_cbcdec_chain : after State.chain .cbcdec (coreWith 0x7A97 0 0xC3F0 0xFFFF) = some 0x7A97#16 := by decide

/-- R213: RESULT is XORed with the CHAIN before the command. -/
theorem test_cbcdec_result : after State.result .cbcdec (coreWith 0x7A97 0 0xC3F0 0xFFFF) = some 0x9C63#16 := by decide

/-- R250. -/
theorem test_rd_iv_after_reset : readBack 0x5#4 State.reset = some 0xFFFF#16 := by decide

/-- V12: a reserved address. -/
theorem test_rd_reserved :
    readBack 0xC#4 State.reset = some 0x0000#16 ∧ after State.status (.rd 0xC#4) State.reset = some 0x0022#16 := by decide

/-- V12: an illegal command is stored and not performed. -/
theorem test_wr_illegal_command :
    after State.status (.wr 0x0#4 0x0019#16) State.reset = some 0x0012#16 ∧
    after State.cmd (.wr 0x0#4 0x0019#16) State.reset = some 0x0019#16 := by decide

/-- V12: the first error is kept. -/
theorem test_wr_read_only_after_error :
    after State.status (.wr 0x7#4 0x1234#16) { State.reset with status := 0x0012#16 } = some 0x0012#16 ∧
    after State.status (.wr 0x7#4 0x1234#16) State.reset = some 0x0032#16 := by decide

/-! ## The step -/

/-- A field after the one step that runs an opcode-table word after reset. -/
def firstStep (f : State → Word) (nbits w : Nat) : Option Word :=
  match step (State.reset.withFetchWord nbits w) with
  | .next t => some (f t)
  | _ => none

/-- Each command's word runs as the first instruction after reset: CMD holds it. -/
theorem test_first_step_commands :
    (List.range 14).map (firstStep State.cmd 16) = (List.range 14).map (fun n => some (BitVec.ofNat 16 n)) := by decide

/-- `wr KEY, C3F0` (P1) and `rd 0xC` (V12) as first instructions. -/
theorem test_first_step_transactions :
    firstStep State.key 24 0x84C3F0 = some 0xC3F0#16 ∧ firstStep State.status 24 0x0C0000 = some 0x0022#16 := by decide

/-- The checked step's fault is the one of V13: `wr A, 0001; cmd GFADD` lacks B. -/
theorem test_unwritten_operand :
    unwrittenOperand .gfadd { State.reset with a := 1, wA := true } = some .b ∧
    unwrittenOperand (.rd 0x9#4) State.reset = some .rk1 ∧ unwrittenOperand .cbcinit State.reset = none := by decide

/-! ## Driver and scripts -/

/-- The output of a driver call. -/
def outputOf (r : Except DriverError (Host.Outcome DriverDone Fault Refusal)) : Option (List Char) :=
  match r with
  | .ok (.next d) => some d.output
  | _ => none

/-- V11: padding at the low end. -/
theorem test_ecb_padding :
    outputOf (encryptMode ['9', 'C', '6'] (.hex ['C', '3', 'F', '0']) ['E', 'C', 'B'] none State.reset)
      = some ['6', '2', 'C', '3'] := by decide

/-- V11: CBC with the default IV. -/
theorem test_cbc_default_iv :
    outputOf (encryptMode ['9', 'c', '6'] (.number 0xC3F0) ['C', 'B', 'C'] none State.reset)
      = some ['E', 'A', '9', '9'] := by decide

/-- P4 writes four-digit hex blocks without `0x`. -/
theorem test_script_line :
    parseLine ['w', 'r', ' ', 'R', 'E', 'S', 'U', 'L', 'T', ',', ' ', '1', '2', '3', '4', ' ', ';', 'x']
      = .ok (some { instr := .wr 0x7#4 0x1234#16, expected := none }) := by rfl

/-! ## Witnesses: states and operands that meet the hypotheses of the statements -/

theorem test_witness_DecodeOfEncode : (Instr.rd 0xF#4).wellFormed = true := by decide

theorem test_witness_EncodeOfDecode :
    decode (.cmd16 0x000D#16) = .ok .cbcdec ∧ decode (.txn24 0x8FFFFF#24) = .ok (.wr 0xF#4 0xFFFF#16) := ⟨rfl, rfl⟩

/-- One value on each side of each boundary: 0x000D legal; 0x000E and 0x0010 illegal. -/
theorem test_witness_CommandDecodingIsTotal :
    ((0x000D#16).extractLsb' 4 12 = 0#12 ∧ ((0x000D#16).extractLsb' 0 4).toNat ≤ 0xD) ∧
    ¬((0x000E#16).extractLsb' 4 12 = 0#12 ∧ ((0x000E#16).extractLsb' 0 4).toNat ≤ 0xD) ∧
    ¬((0x0010#16).extractLsb' 4 12 = 0#12 ∧ ((0x0010#16).extractLsb' 0 4).toNat ≤ 0xD) := by decide

/-- Each outcome of the record decoder is met, and so is the word where the last two premises meet: Z 001 in a read with
DATA (log 18). -/
theorem test_witness_TransactionRecordDecoding :
    decodeTxn 0x8F0000#24 = .ok (.wr 0xF#4 0x0000#16) ∧ decodeTxn 0x0F0000#24 = .ok (.rd 0xF#4) ∧
    decodeTxn 0x900000#24 = .error .reservedBitsSet ∧ decodeTxn 0x000001#24 = .error .readWithData ∧
    decodeTxn 0x100001#24 = .error .reservedBitsSet := ⟨rfl, rfl, rfl, rfl, rfl⟩

/-- A word that decodes, a command's word, and a word that does not decode. -/
theorem test_witness_StepPerformsTheDecodedInstruction :
    (State.reset.withFetchWord 24 0x84C3F0).inbox = .txn 0x84C3F0#24 :: [] ∧
    decodeTxn 0x84C3F0#24 = .ok (.wr 0x4#4 0xC3F0#16) ∧
    (State.reset.withFetchWord 16 0x0009).inbox = .txn (txnOfInstr .encrypt) :: [] ∧
    decodeTxn 0x94C3F0#24 = .error .reservedBitsSet := ⟨rfl, rfl, rfl, rfl⟩

theorem test_witness_IdleStepHoldsEverything : State.reset.inbox = [] := by rfl

/-- A core in mid-run whose next input is the reset signal. -/
theorem test_witness_ResetSetsTheStateOfR300 :
    (sendNext .reset (coreWith 0x9C63 0 0xC3F0 0x7A97)).inbox = .reset :: [] := by rfl

theorem test_witness_ResetKeepsTheConfigurationAndTheHost :
    (sendNext .reset (sendScript [0x070000#24] State.reset)).inbox = .reset :: [.txn 0x070000#24] := by rfl

theorem test_witness_ScriptStepsAreTheProgramRun : (coreWith 0x9C63 0 0xC3F0 0x7A97).inbox = [] := by rfl

theorem test_witness_CmdWritePerformsTheCommand :
    decodeCmd 0x0000#16 = .ok .nop ∧ decodeCmd 0x000D#16 = .ok .cbcdec := ⟨rfl, rfl⟩

/-- Both premises of `faultsUnlessWritten`, for the operand lists the commands have: a core with its operands written,
and the core after reset. -/
theorem test_witness_faultsUnlessWritten :
    (∀ r ∈ [Reg.a, .b, .key], writtenFlag r (coreWith 0 0 0 0) = true) ∧
    (∀ r ∈ [Reg.a, .b, .key, .result, .rk0, .rk1, .rk2], writtenFlag r State.reset = false) ∧
    writtenFlag .result { State.reset with wRESULT := true, wRK := true } = true ∧
    writtenFlag .rk2 { State.reset with wRESULT := true, wRK := true } = true ∧
    writtenFlag .chain State.reset = true := by decide

/-- The reserved addresses at both ends of their range; 0xA is none. -/
theorem test_witness_ReadReturnsTheRegister :
    0xB ≤ (0xB#4 : RegAddr).toNat ∧ 0xB ≤ (0xF#4 : RegAddr).toNat ∧ ¬ 0xB ≤ (regAddr .rk2).toNat := by decide

theorem test_witness_ReservedAddressRecordsBadAddr :
    0xB ≤ (0xB#4 : RegAddr).toNat ∧ 0xB ≤ (0xF#4 : RegAddr).toNat := by decide

theorem test_witness_ReadOnlyWriteRecordsRoWrite :
    Reg.status ∈ [Reg.status, .chain, .result, .rk0, .rk1, .rk2] ∧
    Reg.rk2 ∈ [Reg.status, .chain, .result, .rk0, .rk1, .rk2] := by decide

/-- Each of the three premises, the first without the others. -/
theorem test_witness_IllegalCommandRecordsIllegalCmd :
    (0x0010#16).extractLsb' 4 12 ≠ 0#12 ∧ (0x000E#16).extractLsb' 0 4 = 0xE#4 ∧
    (0x000F#16).extractLsb' 0 4 = 0xF#4 := by decide

/-- A core with an error recorded, and a program that records one. -/
theorem test_witness_StatusRecordsOnlyTheFirstMisuse :
    ({ State.reset with status := 0x0022#16 } : State).status.getLsbD 1 = true ∧
    after State.status (.wr 0x0#4 0x000E#16) State.reset ≠ some State.reset.status := by decide

/-- A written flag after one instruction. -/
def flagAfter (r : Reg) (i : Instr) (s : State) : Option Bool :=
  match exec i s with
  | .next t => some (writtenFlag r t)
  | _ => none

/-- The premise of each clause on a written flag is met by a step from reset, where all are clear. -/
theorem test_witness_OnlyTheNamedWritersChangeAWrittenFlag :
    flagAfter .a (.wr 0x2#4 0#16) State.reset = some true ∧ flagAfter .b (.wr 0x3#4 0#16) State.reset = some true ∧
    flagAfter .key (.wr 0x4#4 0#16) State.reset = some true ∧ flagAfter .result .mixcol State.reset = some true ∧
    flagAfter .rk2 .expandkey State.reset = some true := by decide

/-- The premise of each clause on a register is met by a step: the register changes. STATUS changes by each misuse. -/
theorem test_witness_OnlyTheNamedWritersChangeARegister :
    after State.a (.wr 0x2#4 0x0001#16) State.reset = some 0x0001#16 ∧
    after State.b (.wr 0x3#4 0x0001#16) State.reset = some 0x0001#16 ∧
    after State.key (.wr 0x4#4 0x0001#16) State.reset = some 0x0001#16 ∧
    after State.iv (.wr 0x5#4 0x0001#16) State.reset = some 0x0001#16 ∧
    after State.chain .cbcinit (coreWith 0 0 0 0x0001) = some 0xFFFF#16 ∧
    after State.result .gfadd (coreWith 1 0 0 0) = some 0x0001#16 ∧
    after State.rk1 .expandkey (coreWith 0 0 0 0) = some 0xFFFF#16 ∧
    traceAfter .encrypt (traced State.reset) ≠ [] ∧
    readBack 0x5#4 State.reset = some 0xFFFF#16 ∧
    after State.cmd .gfmul State.reset = some 0x0002#16 ∧
    after State.status (.rd 0xB#4) State.reset = some 0x0022#16 ∧
    after State.status (.wr 0xA#4 0x0000#16) State.reset = some 0x0032#16 ∧
    after State.status (.wr 0x0#4 0x000E#16) State.reset = some 0x0012#16 := by decide

/-- KEY is read after an ENCRYPT and a write of A. -/
theorem test_witness_ReadSeesTheMostRecentWrite :
    Reg.key ∈ [Reg.a, .b, .key, .iv] ∧ ∀ i ∈ [Instr.encrypt, .wr 0x2#4 0xFFFF#16], ∀ u, i ≠ .wr (regAddr .key) u := by
  simp [regAddr]

/-- A write of KEY and an ENCRYPT after EXPANDKEY. -/
theorem test_witness_RoundKeysStayUntilTheNextExpandkey :
    ∀ i ∈ [Instr.wr 0x4#4 0x1234#16, .encrypt], ¬ performs i .expandkey := by
  simp [performs, Command.toInstr]

/-- ECB and transform commands, and a write of CHAIN that is turned away. -/
theorem test_witness_OtherCommandsLeaveTheChain :
    ∀ i ∈ [Instr.encrypt, .mixcol, .wr 0x6#4 0x0000#16],
      ¬ performs i .cbcinit ∧ ¬ performs i .cbcenc ∧ ¬ performs i .cbcdec := by
  simp [performs, Command.toInstr]

/-- Two cores that differ in everything but SBOX. -/
theorem test_witness_CipherDependsOnlyOnBlockKeyAndSbox :
    State.reset.config.sbox = (traced (coreWith 1 2 3 4)).config.sbox ∧ State.reset ≠ traced (coreWith 1 2 3 4) ∧
    Command.decrypt ∈ [Command.encrypt, .decrypt] := by decide

/-- A command with a RESULT, and EXPANDKEY. -/
theorem test_witness_ReportedRegistersAreNeverOperands :
    Command.cbcdec ∉ [Command.nop, .expandkey, .cbcinit] ∧
    (∃ t, exec Command.cbcdec.toInstr State.reset = .next t) ∧
    ∃ t, exec Command.expandkey.toInstr { State.reset with cmd := 1, status := 2, result := 3, rk0 := 4 } = .next t :=
  ⟨by decide, ⟨_, rfl⟩, ⟨_, rfl⟩⟩

/-- One core with tracing off and one with it on, with different logs. -/
theorem test_witness_TracingNeverChangesAResult :
    sameButTrace State.reset { traced State.reset with trace := [⟨.ark0, 0x5F93⟩] } := by rfl

/-- Two cores that differ in registers never written, about to run an ENCRYPT that would read two of them. -/
theorem test_witness_UnwrittenValuesNeverMatter :
    sameButUnwritten (State.reset.withFetchWord 16 0x0009)
      { State.reset.withFetchWord 16 0x0009 with a := 0x1234#16, key := 0x5678#16, rk1 := 0x9ABC#16 } := by
  refine ⟨rfl, ?_, ?_, ?_, ?_, ?_⟩ <;> intro h <;> cases h

/-- The premises of each clause: NOP as a host write reads no register, ENCRYPT as one lacks A and KEY after reset and the
checked step names A, and a core with nothing to do has no transaction. -/
theorem test_witness_CheckedStepIsTheStepOrTheFault :
    (State.reset.withFetchWord 16 0x0000).inbox = .txn 0x800000#24 :: [] ∧
    decodeTxn 0x800000#24 = .ok (.wr 0x0#4 0x0000#16) ∧ operandRegs (.wr 0x0#4 0x0000#16) = [] ∧
    (State.reset.withFetchWord 16 0x0009).inbox = .txn 0x800009#24 :: [] ∧
    decodeTxn 0x800009#24 = .ok (.wr 0x0#4 0x0009#16) ∧ operandRegs (.wr 0x0#4 0x0009#16) = [.a, .key] ∧
    writtenFlag .key (State.reset.withFetchWord 16 0x0009) = false ∧
    checkedStep (State.reset.withFetchWord 16 0x0009) = .fault (.unwrittenRead .a) ∧
    State.reset.inbox = [] := ⟨rfl, rfl, rfl, rfl, rfl, rfl, rfl, rfl, rfl⟩

/-- A command's word, another address with a command's word, and an illegal command. -/
theorem test_witness_CheckedWriteFaultsOnlyForItsCommand :
    decodeCmd 0x000D#16 = .ok .cbcdec ∧ (0x2#4 : RegAddr) ≠ 0x0#4 ∧
    decodeCmd 0x000E#16 = .error .illegalCommand := ⟨rfl, by decide, rfl⟩

/-- V13 (`wr A, 0001; cmd GFADD`): the run and the program fault on B, and a further `wr B, 0000` changes nothing. The
program without the GFADD ends in a state in which B is still unwritten. -/
theorem test_witness_FaultedRunHasNoFurtherSteps :
    checkedRunSteps 2 (sendScript [0x820001#24, 0x800001#24, 0x830000#24] State.reset) = .fault (.unwrittenRead .b) ∧
    checkedRunSteps 3 (sendScript [0x820001#24, 0x800001#24, 0x830000#24] State.reset) = .fault (.unwrittenRead .b) ∧
    checkedRunInstrs [.wr 0x2#4 0x0001#16, .gfadd] State.reset = .fault (.unwrittenRead .b) ∧
    State.reset.inbox = [] ∧
    checkedRunInstrs [.wr 0x2#4 0x0001#16] State.reset = .next { State.reset with a := 0x0001#16, wA := true } ∧
    operandRegs .gfadd = [.a, .b] ∧ writtenFlag .b { State.reset with a := 0x0001#16, wA := true } = false :=
  ⟨rfl, rfl, rfl, rfl, rfl, rfl, rfl⟩

/-- The core after reset meets the invariant, and its next step is ENCRYPT with tracing on. -/
theorem test_witness_EveryStepKeepsTheInvariant :
    coreInvariant (traced State.reset |>.withFetchWord 16 0x0009) ∧
    ∃ t, step (traced State.reset |>.withFetchWord 16 0x0009) = .next t :=
  ⟨⟨.inl rfl, (fun h => by cases h), ⟨(fun h => by cases h), rfl⟩, (fun h => by cases h)⟩, ⟨_, rfl⟩⟩

/-- V2: 8 has the inverse F. -/
theorem test_witness_FieldLaws : (8 : Nibble) ≠ 0 ∧ gmul 8 0xF = 1 := by decide

/-- The identity table is another S-box. -/
theorem test_witness_OnlyPermutationsAreSboxes :
    (sboxOfTable #v[0, 1, 2, 3, 4, 5, 6, 7, 8, 9, 10, 11, 12, 13, 14, 15]).isSome = true := by decide

theorem test_witness_ShiftrowsCommutesWithSubstitution :
    Command.subnib ∈ [Command.subnib, .invsubnib] ∧ Command.invsubnib ∈ [Command.subnib, .invsubnib] := by decide

/-- Two cores with one CHAIN, KEY and SBOX that differ elsewhere. -/
theorem test_witness_CbcBlocksRoundTrip :
    (coreWith 5 6 0xC3F0 0xFFFF).chain = (coreWith 0 0 0xC3F0 0xFFFF).chain ∧
    (coreWith 5 6 0xC3F0 0xFFFF).key = (coreWith 0 0 0xC3F0 0xFFFF).key ∧
    (coreWith 5 6 0xC3F0 0xFFFF).config.sbox = (coreWith 0 0 0xC3F0 0xFFFF).config.sbox := ⟨rfl, rfl, rfl⟩

theorem test_witness_EcbBlocksAreIndependent :
    Command.encrypt ∈ [Command.encrypt, .decrypt] ∧ Command.decrypt ∈ [Command.encrypt, .decrypt] := by decide

/-- Two wrong arguments, each a premise of the first clause: the message has a G, and the IV is out of range. The model
checks the message first (log 13). -/
theorem test_witness_DriverChecksItsArguments_two_wrong :
    (∃ c ∈ ['9', 'C', '6', 'G'], hexDigit c = none) ∧ parseIv (some 0x10000) = .error .rangeError ∧
    encryptMode ['9', 'C', '6', 'G'] (.number 0xC3F0) ['C', 'B', 'C'] (some 0x10000) State.reset = .error .formatError :=
  ⟨⟨'G', by simp, rfl⟩, rfl, rfl⟩

/-- Each premise: a message with a G (V11), a valid call at the top of both ranges, keys of the wrong length or with a
G, a key and an IV of 0x10000, a mode that is neither. -/
theorem test_witness_DriverChecksItsArguments :
    encryptMode ∈ [encryptMode, decryptMode] ∧ decryptMode ∈ [encryptMode, decryptMode] ∧
    (∃ c ∈ ['9', 'C', '6', 'G'], hexDigit c = none) ∧
    validCall ['9', 'C', '6', '3'] (.number 0xFFFF) ['C', 'B', 'C'] (some 0xFFFF) [9, 12, 6, 3] 0xFFFF#16 .cbc 0xFFFF#16 ∧
    ['C', '3', 'F'].length ≠ 4 ∧ (∃ c ∈ ['C', '3', 'F', 'G'], hexDigit c = none) ∧ ((-1 : Int) < 0 ∧ (0xFFFF : Int) < 0x10000) ∧
    ['O', 'F', 'B'] ≠ ['E', 'C', 'B'] ∧ ['O', 'F', 'B'] ≠ ['C', 'B', 'C'] :=
  ⟨by simp, by simp, ⟨'G', by simp, rfl⟩, ⟨rfl, rfl, rfl, rfl⟩, by decide, ⟨'G', by simp, rfl⟩, by decide, by decide,
    by decide⟩

theorem test_witness_EmptyMessageGivesEmptyOutput :
    parseKey (.hex ['C', '3', 'F', '0']) = .ok 0xC3F0#16 ∧ parseIv none = .ok 0xFFFF#16 := ⟨rfl, rfl⟩

/-- W2's first block and a short second part. -/
theorem test_witness_EcbOfConcatenation :
    ['9', 'C', '6', '3'].length % 4 = 0 ∧
    validCall ['9', 'C', '6', '3'] (.hex ['C', '3', 'F', '0']) ['E', 'C', 'B'] none [9, 12, 6, 3] 0xC3F0#16 .ecb 0xFFFF#16 ∧
    validCall ['0', '0'] (.hex ['C', '3', 'F', '0']) ['E', 'C', 'B'] none [0, 0] 0xC3F0#16 .ecb 0xFFFF#16 :=
  ⟨rfl, ⟨rfl, rfl, rfl, rfl⟩, ⟨rfl, rfl, rfl, rfl⟩⟩

/-- A message that needs padding, in CBC mode, decrypted on another core. -/
theorem test_witness_MessageRoundTrip :
    validCall ['9', 'c', '6'] (.hex ['c', '3', 'f', '0']) ['C', 'B', 'C'] (some 0) [9, 12, 6] 0xC3F0#16 .cbc 0x0000#16 ∧
    (coreWith 1 2 3 4).config.sbox = State.reset.config.sbox := ⟨⟨rfl, rfl, rfl, rfl⟩, rfl⟩

/-- A command and an alias in mixed capitals, and a register name in R89's capitals and in mixed ones. -/
theorem test_witness_ScriptLinesIssueTheirTransactions :
    ['n', 'O', 'p'].map lowerChar = (commandName .nop).map lowerChar ∧
    (['G', 'f', 'X', 'o', 'R'].map lowerChar, Command.gfadd) ∈ aliasNames ∧
    (['R', 'K', '2'].map lowerChar, Reg.rk2) ∈ regNames ∧ (['K', 'e', 'y'].map lowerChar, Reg.key) ∈ regNames := by
  decide

end Sys2Proof.Tests
end

section
/-! ## Rules of the core's state (`10_state.md`)

The equations of the checked step, the frame of each command, and `ExecEffect`, which says once everything that
performing an instruction can do. -/

namespace Sys2Proof.Machine

open Sys2Proof.Safety

/-! ### The written flags and the fault of R33 -/

@[simp] theorem writtenFlag_storeCmd (r : Reg) (v : Word) (s : State) :
    writtenFlag r (storeCmd v s) = writtenFlag r s := by cases r <;> rfl

@[simp] theorem writtenFlag_withInbox (r : Reg) (rest : List HostInput) (s : State) :
    writtenFlag r (withInbox rest s) = writtenFlag r s := by cases r <;> rfl

/-- Every instruction gives a next state. -/
theorem exists_exec_eq_next (i : Instr) (s : State) : ∃ t : State, exec i s = .next t := by
  obtain ⟨c, rfl⟩ | ⟨addr, rfl⟩ | ⟨addr, v, rfl⟩ := instr_cases i
  · exact ⟨_, exec_command c s⟩
  · exact ⟨_, exec_rd addr s⟩
  · exact ⟨_, exec_wr addr v s⟩

theorem exec_ne_fault (i : Instr) (s : State) (f : Fault) : exec i s ≠ .fault f := by
  obtain ⟨t, ht⟩ := exists_exec_eq_next i s
  simp [ht]

/-- What the fault names is an operand of the instruction that was never written. -/
theorem mem_operandRegs_of_checkedExec_fault {i : Instr} {s : State} {r : Reg}
    (h : checkedExec i s = .fault (.unwrittenRead r)) : r ∈ operandRegs i ∧ writtenFlag r s = false :=
  unwrittenOperand_some ((checkedExec_fault_iff (exec_ne_fault i s)).1 h)

/-- The checked meaning faults exactly when the instruction reads a register that was never written. -/
theorem checkedExec_faults_iff (i : Instr) (s : State) :
    (∃ f : Fault, checkedExec i s = .fault f) ↔ ∃ r ∈ operandRegs i, writtenFlag r s = false := by
  constructor
  · rintro ⟨⟨r⟩, hf⟩
    exact ⟨r, mem_operandRegs_of_checkedExec_fault hf⟩
  · intro h
    obtain ⟨r, hr⟩ := unwrittenOperand_ne_none h
    exact ⟨_, checkedExec_of_unwritten hr⟩

/-- The two clauses of R33 for an instruction and the registers it reads. -/
theorem faultsUnlessWritten_operandRegs (i : Instr) (s : State) : faultsUnlessWritten i (operandRegs i) s := by
  refine ⟨fun h => checkedExec_of_written (unwrittenOperand_none h), fun h => ?_⟩
  obtain ⟨r, hr⟩ := unwrittenOperand_ne_none h
  obtain ⟨hmem, hflag⟩ := unwrittenOperand_some hr
  exact ⟨r, hmem, hflag, checkedExec_of_unwritten hr⟩

/-- A write to another address than CMD's, or of an illegal command, reads no register. -/
theorem operandRegs_wr_eq_nil {addr : RegAddr} {v : Word} (h : addr ≠ 0x0#4 ∨ decodeCmd v = .error .illegalCommand) :
    operandRegs (.wr addr v) = [] := by
  simp only [operandRegs]
  split
  · rename_i c haddr hv
    obtain hne | hill := h
    · exact absurd (regAddr_of_regAt addr .cmd haddr).symm hne
    · rw [hv] at hill
      cases hill
  · rfl

/-- The host write of a command's word to CMD is that command (R253). -/
theorem exec_wr_encodeCmd (c : Command) (s : State) : exec (.wr 0x0#4 (encodeCmd c)) s = exec c.toInstr s := by
  rw [exec_command, ← performCmd_encodeCmd]
  rfl

theorem checkedExec_wr_encodeCmd (c : Command) (s : State) :
    checkedExec (.wr 0x0#4 (encodeCmd c)) s = checkedExec c.toInstr s := by
  simp only [checkedExec, unwrittenOperand, operandRegs_write_command, operandRegs_command, exec_wr_encodeCmd]

/-! ### The step and the checked step, by the next input -/

section inputs
variable {s : State} {w : TxnWord} {rest : List HostInput}

theorem step_of_txn {i : Instr} (hin : s.inbox = .txn w :: rest) (hw : decodeTxn w = .ok i) :
    step s = exec i (withInbox rest s) := by simp [step, hin, hw]

theorem checkedStep_of_idle (hin : s.inbox = []) : checkedStep s = .next s := by simp [checkedStep, step, hin]

theorem checkedStep_of_reset (hin : s.inbox = .reset :: rest) :
    checkedStep s = .next (resetCore (withInbox rest s)) := by simp [checkedStep, step, hin]

theorem checkedStep_of_txn {i : Instr} (hin : s.inbox = .txn w :: rest) (hw : decodeTxn w = .ok i) :
    checkedStep s = checkedExec i (withInbox rest s) := by simp [checkedStep, hin, hw]

theorem checkedStep_of_bad_txn {e : DecodeError} (hin : s.inbox = .txn w :: rest) (hw : decodeTxn w = .error e) :
    checkedStep s = .refused (.notATransaction e) := by simp [checkedStep, step, hin, hw]

end inputs

/-! ### The frame of a command -/

/-- The commands that write CHAIN (R215). -/
def chainCommands : List Command := [.cbcinit, .cbcenc, .cbcdec]

/-- The commands that write RESULT (R30). -/
def resultCommands : List Command :=
  [.gfadd, .gfmul, .subnib, .invsubnib, .shiftrows, .mixcol, .addrk, .encrypt, .decrypt, .cbcenc, .cbcdec]

/-- The commands that run the cipher engine (R190). -/
def engineCommands : List Command := [.encrypt, .decrypt, .cbcenc, .cbcdec]

section frames
variable {c : Command}

theorem doCommand_chain_of_not_mem (hc : c ∉ chainCommands) (s : State) : (doCommand c s).chain = s.chain := by
  cases c <;> simp [chainCommands] at hc <;> rfl

theorem doCommand_result_of_not_mem (hc : c ∉ resultCommands) (s : State) :
    (doCommand c s).result = s.result ∧ (doCommand c s).wRESULT = s.wRESULT := by
  cases c <;> simp [resultCommands] at hc <;> exact ⟨rfl, rfl⟩

theorem doCommand_roundKeys_of_ne (hc : c ≠ .expandkey) (s : State) :
    (doCommand c s).rk0 = s.rk0 ∧ (doCommand c s).rk1 = s.rk1 ∧ (doCommand c s).rk2 = s.rk2 ∧
    (doCommand c s).wRK = s.wRK := by
  cases c <;> simp at hc <;> exact ⟨rfl, rfl, rfl, rfl⟩

theorem doCommand_trace_of_not_mem (hc : c ∉ engineCommands) (s : State) : (doCommand c s).trace = s.trace := by
  cases c <;> simp [engineCommands] at hc <;> rfl

/-- A run of the engine emits eight trace records (R190). -/
theorem doCommand_trace_of_mem (hc : c ∈ engineCommands) (s : State) :
    ∃ rs : List TraceRecord, rs.length = 8 ∧ (doCommand c s).trace = (emitTrace rs s).trace := by
  cases c <;> simp [engineCommands] at hc <;> exact ⟨_, rfl, rfl⟩

end frames

/-! ### What performing an instruction can do -/

/-- The host addresses whose registers a host write does not change (R251). -/
def readOnlyRegs : List Reg := [.status, .chain, .result, .rk0, .rk1, .rk2]

/-- What the instruction gives in state `s`, by what it is: a command in either of its spellings, a misuse of the
interface, a write of a register, or a read (R250, R251, R253). -/
inductive ExecEffect (s : State) : Instr → State → Prop
  | command {i : Instr} (c : Command) (hi : performs i c) : ExecEffect s i (doCommand c (storeCmd (encodeCmd c) s))
  | illegalCommand (v : Word) (hv : ∀ c : Command, v ≠ encodeCmd c) :
      ExecEffect s (.wr 0x0#4 v) (raiseError .illegalCmd (storeCmd v s))
  | writeA (v : Word) : ExecEffect s (.wr 0x2#4 v) (Machine.writeA v s)
  | writeB (v : Word) : ExecEffect s (.wr 0x3#4 v) (Machine.writeB v s)
  | writeKey (v : Word) : ExecEffect s (.wr 0x4#4 v) (Machine.writeKey v s)
  | writeIv (v : Word) : ExecEffect s (.wr 0x5#4 v) (Machine.writeIv v s)
  | writeReadOnly (r : Reg) (hr : r ∈ readOnlyRegs) (v : Word) :
      ExecEffect s (.wr (regAddr r) v) (raiseError .roWrite s)
  | writeReserved (addr : RegAddr) (haddr : 0xB ≤ addr.toNat) (v : Word) :
      ExecEffect s (.wr addr v) (raiseError .badAddr s)
  | read (r : Reg) : ExecEffect s (.rd (regAddr r)) (respond (readReg r s) s)
  | readReserved (addr : RegAddr) (haddr : 0xB ≤ addr.toNat) :
      ExecEffect s (.rd addr) (respond 0x0000#16 (raiseError .badAddr s))

theorem execEffect_busRead (addr : RegAddr) (s : State) : ExecEffect s (.rd addr) (busRead addr s) := by
  obtain ⟨r, hr, heq⟩ | ⟨hnone, heq⟩ := busRead_cases addr s
  · rw [heq, ← regAddr_of_regAt addr r hr]
    exact .read r
  · rw [heq]
    exact .readReserved addr ((regAt_eq_none_iff addr).1 hnone)

theorem execEffect_performCmd (v : Word) (s : State) : ExecEffect s (.wr 0x0#4 v) (performCmd v s) := by
  obtain ⟨c, hc, heq⟩ | ⟨hill, heq⟩ := performCmd_cases v s
  · obtain rfl := encodeCmd_of_decodeCmd hc
    rw [heq]
    exact .command c (.inr rfl)
  · rw [heq]
    refine .illegalCommand v fun c hv => ?_
    simp [hv] at hill

theorem execEffect_busWrite (addr : RegAddr) (v : Word) (s : State) :
    ExecEffect s (.wr addr v) (busWrite addr v s) := by
  obtain ⟨hnone, heq⟩ | ⟨rfl, heq⟩ | ⟨rfl, heq⟩ | ⟨rfl, heq⟩ | ⟨rfl, heq⟩ | ⟨rfl, heq⟩ | ⟨r, hr, rfl, heq⟩ :=
    busWrite_cases addr v s <;> rw [heq]
  · exact .writeReserved addr ((regAt_eq_none_iff addr).1 hnone) v
  · exact execEffect_performCmd v s
  · exact .writeA v
  · exact .writeB v
  · exact .writeKey v
  · exact .writeIv v
  · exact .writeReadOnly r hr v

/-- Everything performing an instruction can do. -/
theorem execEffect_of_exec {i : Instr} {s t : State} (h : exec i s = .next t) : ExecEffect s i t := by
  obtain ⟨c, rfl⟩ | ⟨addr, rfl⟩ | ⟨addr, v, rfl⟩ := instr_cases i
  · obtain rfl : doCommand c (storeCmd (encodeCmd c) s) = t := by simpa [exec_command] using h
    exact .command c (.inl rfl)
  · obtain rfl : busRead addr s = t := by simpa [exec_rd] using h
    exact execEffect_busRead addr s
  · obtain rfl : busWrite addr v s = t := by simpa [exec_wr] using h
    exact execEffect_busWrite addr v s

end Sys2Proof.Machine
end

section
/-! ## Values never written never matter (R33, R275)

`sameButUnwritten` is kept by every operation on the state and, where the operands of an instruction were written, by
the instruction. -/

namespace Sys2Proof.Machine

open Sys2Proof.Safety

section related
variable {s t : State} (h : sameButUnwritten s t)
include h

/-! ### What two related states share -/

theorem inbox_eq_of_sameButUnwritten : t.inbox = s.inbox := (congrArg State.inbox h.1 :)

theorem config_eq_of_sameButUnwritten : t.config = s.config := (congrArg State.config h.1 :)

theorem chain_eq_of_sameButUnwritten : t.chain = s.chain := (congrArg State.chain h.1 :)

theorem iv_eq_of_sameButUnwritten : t.iv = s.iv := (congrArg State.iv h.1 :)

theorem writtenFlag_eq_of_sameButUnwritten (r : Reg) : writtenFlag r t = writtenFlag r s := by
  obtain ⟨heq, -⟩ := h
  rw [← heq]
  cases r <;> rfl

theorem unwrittenOperand_eq_of_sameButUnwritten (i : Instr) : unwrittenOperand i t = unwrittenOperand i s := by
  simp only [unwrittenOperand, writtenFlag_eq_of_sameButUnwritten h]

/-- A register that was written holds one value in both. -/
theorem readReg_eq_of_sameButUnwritten {r : Reg} (hr : writtenFlag r s = true) : readReg r t = readReg r s := by
  obtain ⟨heq, ha, hb, hkey, hresult, hrk⟩ := h
  cases r with
  | cmd => exact (congrArg State.cmd heq :)
  | status => exact congrArg statusReadback (congrArg State.status heq :)
  | a => exact ha hr
  | b => exact hb hr
  | key => exact hkey hr
  | iv => exact (congrArg State.iv heq :)
  | chain => exact (congrArg State.chain heq :)
  | result => exact hresult hr
  | rk0 => exact (hrk hr).1
  | rk1 => exact (hrk hr).2.1
  | rk2 => exact (hrk hr).2.2

/-! ### Operations on related states -/

theorem sameButUnwritten_withInbox (rest : List HostInput) :
    sameButUnwritten (withInbox rest s) (withInbox rest t) := ⟨congrArg (withInbox rest) h.1, h.2⟩

theorem sameButUnwritten_raiseError (e : ErrorCode) : sameButUnwritten (raiseError e s) (raiseError e t) :=
  ⟨congrArg (raiseError e) h.1, h.2⟩

theorem sameButUnwritten_storeCmd (v : Word) : sameButUnwritten (storeCmd v s) (storeCmd v t) :=
  ⟨congrArg (storeCmd v) h.1, h.2⟩

theorem sameButUnwritten_respond (v : Word) : sameButUnwritten (respond v s) (respond v t) :=
  ⟨congrArg (respond v) h.1, h.2⟩

theorem sameButUnwritten_emitTrace (rs : List TraceRecord) :
    sameButUnwritten (emitTrace rs s) (emitTrace rs t) := ⟨congrArg (emitTrace rs) h.1, h.2⟩

theorem sameButUnwritten_writeIv (v : Word) : sameButUnwritten (writeIv v s) (writeIv v t) :=
  ⟨congrArg (writeIv v) h.1, h.2⟩

theorem sameButUnwritten_writeChain (v : Word) : sameButUnwritten (writeChain v s) (writeChain v t) :=
  ⟨congrArg (writeChain v) h.1, h.2⟩

theorem sameButUnwritten_writeA (v : Word) : sameButUnwritten (writeA v s) (writeA v t) := by
  obtain ⟨heq, -, hb, hkey, hresult, hrk⟩ := h
  exact ⟨congrArg (writeA v) heq, fun _ => rfl, hb, hkey, hresult, hrk⟩

theorem sameButUnwritten_writeB (v : Word) : sameButUnwritten (writeB v s) (writeB v t) := by
  obtain ⟨heq, ha, -, hkey, hresult, hrk⟩ := h
  exact ⟨congrArg (writeB v) heq, ha, fun _ => rfl, hkey, hresult, hrk⟩

theorem sameButUnwritten_writeKey (v : Word) : sameButUnwritten (writeKey v s) (writeKey v t) := by
  obtain ⟨heq, ha, hb, -, hresult, hrk⟩ := h
  exact ⟨congrArg (writeKey v) heq, ha, hb, fun _ => rfl, hresult, hrk⟩

theorem sameButUnwritten_writeResult (v : Word) : sameButUnwritten (writeResult v s) (writeResult v t) := by
  obtain ⟨heq, ha, hb, hkey, -, hrk⟩ := h
  exact ⟨congrArg (writeResult v) heq, ha, hb, hkey, fun _ => rfl, hrk⟩

theorem sameButUnwritten_writeRoundKeys (k0 k1 k2 : Word) :
    sameButUnwritten (writeRoundKeys k0 k1 k2 s) (writeRoundKeys k0 k1 k2 t) := by
  obtain ⟨heq, ha, hb, hkey, hresult, -⟩ := h
  exact ⟨congrArg (writeRoundKeys k0 k1 k2) heq, ha, hb, hkey, hresult, fun _ => ⟨rfl, rfl, rfl⟩⟩

theorem sameButUnwritten_resetCore : sameButUnwritten (resetCore s) (resetCore t) :=
  ⟨(congrArg resetCore h.1 :), fun _ => rfl, fun _ => rfl, fun _ => rfl, fun _ => rfl, fun _ => ⟨rfl, rfl, rfl⟩⟩

/-! ### Instructions on related states -/

/-- A command whose operands were written computes the same in both. -/
theorem sameButUnwritten_doCommand {c : Command} (hc : ∀ r ∈ commandOperands c, writtenFlag r s = true) :
    sameButUnwritten (doCommand c s) (doCommand c t) := by
  have hcfg := config_eq_of_sameButUnwritten h
  have hchain := chain_eq_of_sameButUnwritten h
  have hiv := iv_eq_of_sameButUnwritten h
  have ha : Reg.a ∈ commandOperands c → t.a = s.a := fun hm => readReg_eq_of_sameButUnwritten h (hc _ hm)
  have hb : Reg.b ∈ commandOperands c → t.b = s.b := fun hm => readReg_eq_of_sameButUnwritten h (hc _ hm)
  have hkey : Reg.key ∈ commandOperands c → t.key = s.key := fun hm => readReg_eq_of_sameButUnwritten h (hc _ hm)
  cases c with
  | nop => exact h
  | gfadd => simpa only [doCommand, doGfadd, ha (by decide), hb (by decide)] using sameButUnwritten_writeResult h _
  | gfmul => simpa only [doCommand, doGfmul, ha (by decide), hb (by decide)] using sameButUnwritten_writeResult h _
  | subnib => simpa only [doCommand, doSubnib, ha (by decide), hcfg] using sameButUnwritten_writeResult h _
  | invsubnib => simpa only [doCommand, doInvsubnib, ha (by decide), hcfg] using sameButUnwritten_writeResult h _
  | shiftrows => simpa only [doCommand, doShiftrows, ha (by decide)] using sameButUnwritten_writeResult h _
  | mixcol => simpa only [doCommand, doMixcol, ha (by decide)] using sameButUnwritten_writeResult h _
  | addrk => simpa only [doCommand, doAddrk, ha (by decide), hb (by decide)] using sameButUnwritten_writeResult h _
  | expandkey =>
    simpa only [doCommand, doExpandkey, hkey (by decide), hcfg] using sameButUnwritten_writeRoundKeys h _ _ _
  | encrypt =>
    simpa only [doCommand, doEncrypt, ha (by decide), hkey (by decide), hcfg] using
      sameButUnwritten_writeResult (sameButUnwritten_emitTrace h _) _
  | decrypt =>
    simpa only [doCommand, doDecrypt, ha (by decide), hkey (by decide), hcfg] using
      sameButUnwritten_writeResult (sameButUnwritten_emitTrace h _) _
  | cbcinit => simpa only [doCommand, doCbcinit, hiv] using sameButUnwritten_writeChain h _
  | cbcenc =>
    simpa only [doCommand, doCbcenc, ha (by decide), hkey (by decide), hchain, hcfg] using
      sameButUnwritten_writeChain (sameButUnwritten_writeResult (sameButUnwritten_emitTrace h _) _) _
  | cbcdec =>
    simpa only [doCommand, doCbcdec, ha (by decide), hkey (by decide), hchain, hcfg] using
      sameButUnwritten_writeChain (sameButUnwritten_writeResult (sameButUnwritten_emitTrace h _) _) _

theorem sameButUnwritten_command {c : Command} (hc : ∀ r ∈ commandOperands c, writtenFlag r s = true) :
    sameButUnwritten (doCommand c (storeCmd (encodeCmd c) s)) (doCommand c (storeCmd (encodeCmd c) t)) :=
  sameButUnwritten_doCommand (sameButUnwritten_storeCmd h _) (by simpa using hc)

theorem sameButUnwritten_busRead {addr : RegAddr} (haddr : ∀ r ∈ operandRegs (.rd addr), writtenFlag r s = true) :
    sameButUnwritten (busRead addr s) (busRead addr t) := by
  unfold busRead
  cases hr : regAt addr with
  | none => exact sameButUnwritten_respond (sameButUnwritten_raiseError h _) _
  | some r =>
    have hread : readReg r t = readReg r s := readReg_eq_of_sameButUnwritten h (haddr r (by simp [operandRegs, hr]))
    simpa only [hread] using sameButUnwritten_respond h _

theorem sameButUnwritten_busWrite {addr : RegAddr} {v : Word}
    (hops : ∀ r ∈ operandRegs (.wr addr v), writtenFlag r s = true) :
    sameButUnwritten (busWrite addr v s) (busWrite addr v t) := by
  unfold busWrite
  cases hr : regAt addr with
  | none => exact sameButUnwritten_raiseError h _
  | some r =>
    cases r with
    | cmd =>
      cases hv : decodeCmd v with
      | ok c =>
        simp only [performCmd, hv]
        exact sameButUnwritten_doCommand (sameButUnwritten_storeCmd h v) (by simpa [operandRegs, hr, hv] using hops)
      | error e =>
        simp only [performCmd, hv]
        exact sameButUnwritten_raiseError (sameButUnwritten_storeCmd h v) _
    | a => exact sameButUnwritten_writeA h v
    | b => exact sameButUnwritten_writeB h v
    | key => exact sameButUnwritten_writeKey h v
    | iv => exact sameButUnwritten_writeIv h v
    | status | chain | result | rk0 | rk1 | rk2 => exact sameButUnwritten_raiseError h _

/-- An instruction whose operands were written gives related states. -/
theorem outcomesRelated_exec {i : Instr} (hops : ∀ r ∈ operandRegs i, writtenFlag r s = true) :
    outcomesRelated sameButUnwritten (exec i s) (exec i t) := by
  obtain ⟨c, rfl⟩ | ⟨addr, rfl⟩ | ⟨addr, v, rfl⟩ := instr_cases i
  · rw [operandRegs_command] at hops
    rw [exec_command, exec_command]
    exact sameButUnwritten_command h hops
  · exact sameButUnwritten_busRead h hops
  · exact sameButUnwritten_busWrite h hops

/-- The fault of R33 stands between an instruction and a value that was never written. -/
theorem outcomesRelated_checkedExec (i : Instr) :
    outcomesRelated sameButUnwritten (checkedExec i s) (checkedExec i t) := by
  have hsame := unwrittenOperand_eq_of_sameButUnwritten h i
  cases hu : unwrittenOperand i s with
  | some r =>
    rw [checkedExec_of_unwritten hu, checkedExec_of_unwritten (hsame.trans hu)]
    exact rfl
  | none =>
    rw [checkedExec_of_written hu, checkedExec_of_written (hsame.trans hu)]
    refine outcomesRelated_exec h fun r hr => ?_
    simpa using List.find?_eq_none.1 hu r hr

theorem outcomesRelated_checkedStep : outcomesRelated sameButUnwritten (checkedStep s) (checkedStep t) := by
  have hin := inbox_eq_of_sameButUnwritten h
  cases hs : s.inbox with
  | nil =>
    rw [checkedStep_of_idle hs, checkedStep_of_idle (hin.trans hs)]
    exact h
  | cons x rest =>
    have hrest := sameButUnwritten_withInbox h rest
    cases x with
    | reset =>
      rw [checkedStep_of_reset hs, checkedStep_of_reset (hin.trans hs)]
      exact sameButUnwritten_resetCore hrest
    | txn w =>
      cases hw : decodeTxn w with
      | ok i =>
        rw [checkedStep_of_txn hs hw, checkedStep_of_txn (hin.trans hs) hw]
        exact outcomesRelated_checkedExec hrest i
      | error e =>
        rw [checkedStep_of_bad_txn hs hw, checkedStep_of_bad_txn (hin.trans hs) hw]
        exact rfl

end related

/-- Settles O42: `sameButUnwritten` is a simulation of the checked step by itself. -/
theorem unwrittenValuesNeverMatter : Obligations.UnwrittenValuesNeverMatter := by
  unfold Obligations.UnwrittenValuesNeverMatter
  intro s t h
  exact outcomesRelated_checkedStep h

end Sys2Proof.Machine
end

section
/-! ## The invariant of the core (R24, R32, R36, R190, R253) -/

namespace Sys2Proof.Machine

open Sys2Proof.Safety

theorem legalStatus_statusOfError (e : ErrorCode) : legalStatus (statusOfError e) := by
  cases e with
  | illegalCmd => exact .inr (.inl rfl)
  | badAddr => exact .inr (.inr (.inl rfl))
  | roWrite => exact .inr (.inr (.inr rfl))

theorem legalStatus_recordError (e : ErrorCode) {status : Word} (h : legalStatus status) :
    legalStatus (recordError e status) := by
  unfold recordError
  split
  · exact h
  · exact legalStatus_statusOfError e

theorem legalCmdWord_encodeCmd (c : Command) : legalCmdWord (encodeCmd c) = true := by cases c <;> rfl

/-- The first round key is the key itself (R161). -/
theorem expandKey_k0 (sb : SBox) (k : Word) : (expandKey sb k).k0 = k := fromBlock_toBlock k

theorem roundKeysCoherent_doCommand (c : Command) {s : State} (h : roundKeysCoherent s) :
    roundKeysCoherent (doCommand c s) := by
  by_cases hc : c = .expandkey
  · subst hc
    intro _
    change expandKey s.config.sbox (expandKey s.config.sbox s.key).k0 = expandKey s.config.sbox s.key
    rw [expandKey_k0]
  · obtain ⟨h0, h1, h2, hw⟩ := doCommand_roundKeys_of_ne hc s
    simpa only [roundKeysCoherent, h0, h1, h2, hw, doCommand_config] using h

theorem traceCoherent_emitTrace {rs : List TraceRecord} (hrs : rs.length = 8) {s : State} (h : traceCoherent s) :
    traceCoherent (emitTrace rs s) := by
  obtain ⟨hoff, hlen⟩ := h
  refine ⟨fun hdis => ?_, ?_⟩
  · rw [emitTrace_config] at hdis
    simpa [hdis] using hoff hdis
  · rw [emitTrace_trace]
    split
    · simp [hrs, hlen]
    · exact hlen

theorem traceCoherent_doCommand (c : Command) {s : State} (h : traceCoherent s) : traceCoherent (doCommand c s) := by
  by_cases hc : c ∈ engineCommands
  · obtain ⟨rs, hrs, htrace⟩ := doCommand_trace_of_mem hc s
    simpa only [traceCoherent, htrace, doCommand_config, emitTrace_config] using traceCoherent_emitTrace hrs h
  · simpa only [traceCoherent, doCommand_trace_of_not_mem hc, doCommand_config] using h

/-- A command row or the host write of its word. What CMD held before does not count. -/
theorem coreInvariant_command (c : Command) {s : State} (h : coreInvariant s) :
    coreInvariant (doCommand c (storeCmd (encodeCmd c) s)) := by
  obtain ⟨hstatus, hkeys, htrace, -⟩ := h
  refine ⟨?_, roundKeysCoherent_doCommand c hkeys, traceCoherent_doCommand c htrace, fun hill => ?_⟩
  · simpa using hstatus
  · simp [legalCmdWord_encodeCmd] at hill

/-- An error leaves ERR set, whatever CMD holds. -/
theorem coreInvariant_raiseError (e : ErrorCode) {s : State} (hstatus : legalStatus s.status)
    (hkeys : roundKeysCoherent s) (htrace : traceCoherent s) : coreInvariant (raiseError e s) :=
  ⟨legalStatus_recordError e hstatus, hkeys, htrace, fun _ => statusErr_recordError e s.status⟩

theorem coreInvariant_resetCore (s : State) : coreInvariant (resetCore s) :=
  ⟨.inl rfl, (fun hw => by cases hw), ⟨fun _ => rfl, rfl⟩,
    fun hill : legalCmdWord 0x0000#16 = false => absurd hill (by decide)⟩

theorem coreInvariant_exec {i : Instr} {s t : State} (h : coreInvariant s) (hx : exec i s = .next t) :
    coreInvariant t := by
  obtain ⟨hstatus, hkeys, htrace, -⟩ := id h
  cases execEffect_of_exec hx with
  | command c hi => exact coreInvariant_command c h
  | illegalCommand v hv => exact coreInvariant_raiseError (s := storeCmd v s) .illegalCmd hstatus hkeys htrace
  | writeReadOnly r hr v => exact coreInvariant_raiseError .roWrite hstatus hkeys htrace
  | writeReserved addr haddr v => exact coreInvariant_raiseError .badAddr hstatus hkeys htrace
  | readReserved addr haddr => exact coreInvariant_raiseError .badAddr hstatus hkeys htrace
  | writeA | writeB | writeKey | writeIv | read => exact h

theorem coreInvariant_step {s t : State} (h : coreInvariant s) (hx : step s = .next t) : coreInvariant t := by
  obtain ⟨-, heq⟩ | ⟨rest, -, heq⟩ | ⟨w, rest, i, -, -, heq⟩ | ⟨w, rest, e, -, -, heq⟩ := step_cases s <;>
    rw [heq] at hx
  · cases hx
    exact h
  · cases hx
    exact coreInvariant_resetCore _
  · exact coreInvariant_exec (s := withInbox rest s) h hx
  · cases hx

/-- Settles O47: each of the four parts is kept by every effect an instruction can have, and by the reset signal. -/
theorem everyStepKeepsTheInvariant : Obligations.EveryStepKeepsTheInvariant := by
  unfold Obligations.EveryStepKeepsTheInvariant
  intro s t h hx
  exact coreInvariant_step h hx

/-- Settles O46: the reset state is what the reset signal makes of it. -/
theorem resetMeetsTheInvariant : Obligations.ResetMeetsTheInvariant :=
  coreInvariant_resetCore State.reset

end Sys2Proof.Machine
end

section
/-! ## The writers of each register (R22, R33, R83, R250, R251, R270)

One lemma per register: an instruction that changes it is one of its writers. -/

namespace Sys2Proof.Machine

open Sys2Proof.Safety

section writers
variable {i : Instr} {s t : State} (hx : ExecEffect s i t)
include hx

theorem writer_of_cmd_ne (h : t.cmd ≠ s.cmd) : (∃ c, i = Command.toInstr c) ∨ ∃ v, i = .wr 0x0#4 v := by
  cases hx with
  | command c hi => exact hi.imp (⟨c, ·⟩) (⟨_, ·⟩)
  | illegalCommand v hv => exact .inr ⟨v, rfl⟩
  | _ => simp at h

theorem writer_of_status_ne (h : t.status ≠ s.status) :
    (∃ addr : RegAddr, 0xB ≤ addr.toNat ∧ (i = .rd addr ∨ ∃ v, i = .wr addr v)) ∨
    (∃ r ∈ readOnlyRegs, ∃ v, i = .wr (regAddr r) v) ∨
    (∃ v : Word, (∀ c : Command, v ≠ encodeCmd c) ∧ i = .wr 0x0#4 v) := by
  cases hx with
  | writeReserved addr haddr v => exact .inl ⟨addr, haddr, .inr ⟨v, rfl⟩⟩
  | readReserved addr haddr => exact .inl ⟨addr, haddr, .inl rfl⟩
  | writeReadOnly r hr v => exact .inr (.inl ⟨r, hr, v, rfl⟩)
  | illegalCommand v hv => exact .inr (.inr ⟨v, hv, rfl⟩)
  | _ => simp at h

theorem writer_of_a_ne (h : t.a ≠ s.a ∨ t.wA ≠ s.wA) : ∃ v, i = .wr 0x2#4 v := by
  cases hx with
  | writeA v => exact ⟨v, rfl⟩
  | _ => simp at h

theorem writer_of_b_ne (h : t.b ≠ s.b ∨ t.wB ≠ s.wB) : ∃ v, i = .wr 0x3#4 v := by
  cases hx with
  | writeB v => exact ⟨v, rfl⟩
  | _ => simp at h

theorem writer_of_key_ne (h : t.key ≠ s.key ∨ t.wKEY ≠ s.wKEY) : ∃ v, i = .wr 0x4#4 v := by
  cases hx with
  | writeKey v => exact ⟨v, rfl⟩
  | _ => simp at h

theorem writer_of_iv_ne (h : t.iv ≠ s.iv) : ∃ v, i = .wr 0x5#4 v := by
  cases hx with
  | writeIv v => exact ⟨v, rfl⟩
  | _ => simp at h

theorem writer_of_chain_ne (h : t.chain ≠ s.chain) : ∃ c ∈ chainCommands, performs i c := by
  cases hx with
  | command c hi => exact ⟨c, by_contra fun hc => h (doCommand_chain_of_not_mem hc _), hi⟩
  | _ => simp at h

theorem writer_of_result_ne (h : t.result ≠ s.result ∨ t.wRESULT ≠ s.wRESULT) :
    ∃ c ∈ resultCommands, performs i c := by
  cases hx with
  | command c hi =>
    refine ⟨c, by_contra fun hc => ?_, hi⟩
    simp [doCommand_result_of_not_mem hc] at h
  | _ => simp at h

theorem writer_of_roundKeys_ne (h : t.rk0 ≠ s.rk0 ∨ t.rk1 ≠ s.rk1 ∨ t.rk2 ≠ s.rk2 ∨ t.wRK ≠ s.wRK) :
    performs i .expandkey := by
  cases hx with
  | command c hi =>
    by_cases hc : c = .expandkey
    · exact hc ▸ hi
    · simp [doCommand_roundKeys_of_ne hc] at h
  | _ => simp at h

theorem writer_of_trace_ne (h : t.trace ≠ s.trace) : ∃ c ∈ engineCommands, performs i c := by
  cases hx with
  | command c hi => exact ⟨c, by_contra fun hc => h (doCommand_trace_of_not_mem hc _), hi⟩
  | _ => simp at h

theorem writer_of_responses_ne (h : t.responses ≠ s.responses) : ∃ addr, i = .rd addr := by
  cases hx with
  | read r => exact ⟨regAddr r, rfl⟩
  | readReserved addr haddr => exact ⟨addr, rfl⟩
  | _ => simp at h

/-- The configuration and the inputs to come stay (R302, R90). -/
theorem config_and_inbox_eq_of_execEffect : t.config = s.config ∧ t.inbox = s.inbox := by
  cases hx <;> simp

end writers

/-- Settles O34: a register differs only after an effect that writes it. -/
theorem onlyTheNamedWritersChangeARegister : Obligations.OnlyTheNamedWritersChangeARegister := by
  unfold Obligations.OnlyTheNamedWritersChangeARegister
  intro i s t h
  have hx := execEffect_of_exec h
  exact ⟨writer_of_cmd_ne hx, writer_of_status_ne hx, writer_of_a_ne hx, writer_of_b_ne hx, writer_of_key_ne hx,
    writer_of_iv_ne hx, writer_of_chain_ne hx, writer_of_result_ne hx, writer_of_roundKeys_ne hx,
    writer_of_trace_ne hx, writer_of_responses_ne hx, config_and_inbox_eq_of_execEffect hx⟩

end Sys2Proof.Machine
end

section
/-! ## The checked step and the checked host write (R33, R83, R251–R253) -/

namespace Sys2Proof.Machine

open Sys2Proof.Safety

/-- Settles O43: the four clauses are those of `checkedExec` on the decoded transaction. -/
theorem checkedStepIsTheStepOrTheFault : Obligations.CheckedStepIsTheStepOrTheFault := by
  unfold Obligations.CheckedStepIsTheStepOrTheFault
  intro s
  constructor
  · intro w rest i hin hw
    rw [checkedStep_of_txn hin hw, step_of_txn hin hw]
    refine ⟨rfl, ?_, fun r hf => ?_, fun hall => ?_⟩
    · simpa using checkedExec_faults_iff i (withInbox rest s)
    · obtain ⟨hmem, hflag⟩ := mem_operandRegs_of_checkedExec_fault hf
      exact ⟨hmem, by simpa using hflag, exists_exec_eq_next i _⟩
    · exact checkedExec_of_written (unwrittenOperand_none (by simpa using hall))
  · intro hnone
    obtain ⟨w, rest, i, hin, hw, -⟩ | ⟨-, heq⟩ := checkedStep_cases s
    · exact absurd hw (hnone w rest i hin)
    · exact heq

/-- Settles O44: a write to CMD of a command's word reads what the command reads, and any other write reads nothing. -/
theorem checkedWriteFaultsOnlyForItsCommand : Obligations.CheckedWriteFaultsOnlyForItsCommand := by
  unfold Obligations.CheckedWriteFaultsOnlyForItsCommand
  intro s addr v
  constructor
  · intro c hc
    obtain rfl := encodeCmd_of_decodeCmd hc
    have hregs := operandRegs_write_command c
    refine ⟨checkedExec_wr_encodeCmd c s, ?_, ?_, ?_⟩
    · rw [← hregs]
      exact faultsUnlessWritten_operandRegs _ s
    · rw [← hregs, ← checkedExec_faults_iff]
      exact ⟨fun ⟨r, hr⟩ => ⟨_, hr⟩, fun ⟨⟨r⟩, hr⟩ => ⟨r, hr⟩⟩
    · cases c <;> rfl
  · intro h
    obtain ⟨t, ht⟩ := exists_exec_eq_next (.wr addr v) s
    have hnone : unwrittenOperand (.wr addr v) s = none := by simp [unwrittenOperand, operandRegs_wr_eq_nil h]
    exact ⟨t, (checkedExec_of_written hnone).trans ht, ht⟩

end Sys2Proof.Machine
end

section
/-! ## The register file and the order of transactions (`20_memory.md` R54, R61) -/

namespace Sys2Proof.Machine

/-! ### The inputs to come play no part in an instruction -/

@[simp] theorem readReg_withInbox (r : Reg) (rest : List HostInput) (s : State) :
    readReg r (withInbox rest s) = readReg r s := by cases r <;> rfl

theorem doCommand_withInbox (c : Command) (rest : List HostInput) (s : State) :
    doCommand c (withInbox rest s) = withInbox rest (doCommand c s) := by cases c <;> rfl

theorem performCmd_withInbox (v : Word) (rest : List HostInput) (s : State) :
    performCmd v (withInbox rest s) = withInbox rest (performCmd v s) := by
  unfold performCmd
  cases decodeCmd v with
  | ok c => exact doCommand_withInbox c rest (storeCmd v s)
  | error e => rfl

theorem busRead_withInbox (addr : RegAddr) (rest : List HostInput) (s : State) :
    busRead addr (withInbox rest s) = withInbox rest (busRead addr s) := by
  unfold busRead
  cases regAt addr with
  | none => rfl
  | some r =>
    simp only [readReg_withInbox]
    rfl

theorem busWrite_withInbox (addr : RegAddr) (v : Word) (rest : List HostInput) (s : State) :
    busWrite addr v (withInbox rest s) = withInbox rest (busWrite addr v s) := by
  unfold busWrite
  cases regAt addr with
  | none => rfl
  | some r =>
    cases r with
    | cmd => exact performCmd_withInbox v rest s
    | _ => rfl

/-- An instruction does the same whatever inputs are still to come. -/
theorem exec_withInbox {i : Instr} {s t : State} (rest : List HostInput) (h : exec i s = .next t) :
    exec i (withInbox rest s) = .next (withInbox rest t) := by
  obtain ⟨c, rfl⟩ | ⟨addr, rfl⟩ | ⟨addr, v, rfl⟩ := instr_cases i
  · obtain rfl : doCommand c (storeCmd (encodeCmd c) s) = t := by simpa [exec_command] using h
    rw [exec_command, ← doCommand_withInbox]
    rfl
  · obtain rfl : busRead addr s = t := by simpa [exec_rd] using h
    rw [exec_rd, busRead_withInbox]
  · obtain rfl : busWrite addr v s = t := by simpa [exec_wr] using h
    rw [exec_wr, busWrite_withInbox]

/-! ### A sent program, step by step -/

/-- A command row is issued as the host write of its word to CMD (R91). -/
theorem txnOfInstr_command (c : Command) : txnOfInstr c.toInstr = encodeWrite 0x0#4 (encodeCmd c) := by cases c <;> rfl

/-- The word that issues an instruction decodes to one of the same meaning. -/
theorem exists_decodeTxn_txnOfInstr (i : Instr) :
    ∃ j : Instr, decodeTxn (txnOfInstr i) = .ok j ∧ ∀ s : State, exec j s = exec i s := by
  obtain ⟨c, rfl⟩ | ⟨addr, rfl⟩ | ⟨addr, v, rfl⟩ := instr_cases i
  · rw [txnOfInstr_command]
    exact ⟨_, decodeTxn_encodeWrite _ _, exec_wr_encodeCmd c⟩
  · exact ⟨_, decodeTxn_encodeRead addr, fun _ => rfl⟩
  · exact ⟨_, decodeTxn_encodeWrite addr v, fun _ => rfl⟩

theorem step_of_txnOfInstr {i : Instr} {s : State} {rest : List HostInput}
    (hin : s.inbox = .txn (txnOfInstr i) :: rest) : step s = exec i (withInbox rest s) := by
  obtain ⟨j, hj, hexec⟩ := exists_decodeTxn_txnOfInstr i
  rw [step_of_txn hin hj, hexec]

/-- With exactly the words of a program to come, the steps are the program on the state with nothing to come. -/
theorem runSteps_of_inbox_eq (is : List Instr) {s : State}
    (hin : s.inbox = (is.map txnOfInstr).map HostInput.txn) :
    runSteps is.length s = runInstrs is (withInbox [] s) := by
  induction is generalizing s with
  | nil =>
    have hs : withInbox [] s = s := congrArg (withInbox · s) hin.symm
    rw [hs]
    rfl
  | cons i is ih =>
    obtain ⟨t, ht⟩ := exists_exec_eq_next i s
    have hstep := (step_of_txnOfInstr hin).trans (exec_withInbox _ ht)
    calc runSteps (is.length + 1) s
        = runSteps is.length (withInbox ((is.map txnOfInstr).map HostInput.txn) t) := by
          rw [runSteps, hstep, andThen_next]
      _ = runInstrs is (withInbox [] t) := ih rfl
      _ = runInstrs (i :: is) (withInbox [] s) := (runInstrs_cons is (exec_withInbox [] ht)).symm

/-- Settles O11: each step takes the next word and performs its instruction, which does not look at the words after
it. -/
theorem scriptStepsAreTheProgramRun : Obligations.ScriptStepsAreTheProgramRun := by
  unfold Obligations.ScriptStepsAreTheProgramRun
  intro is s hin
  have hsent : withInbox [] (sendScript (is.map txnOfInstr) s) = s := congrArg (withInbox · s) hin.symm
  rw [runSteps_of_inbox_eq is (by simp [hin]), hsent]

/-! ### What a program keeps -/

/-- A program completes, and what each of its instructions keeps, the program keeps. -/
theorem exists_runInstrs_of_invariant {P : State → Prop} {is : List Instr}
    (hstep : ∀ i ∈ is, ∀ s t : State, P s → exec i s = .next t → P t) {s : State} (hs : P s) :
    ∃ t : State, runInstrs is s = .next t ∧ P t := by
  induction is generalizing s with
  | nil => exact ⟨s, rfl, hs⟩
  | cons i is ih =>
    obtain ⟨t, ht⟩ := exists_exec_eq_next i s
    rw [runInstrs_cons is ht]
    exact ih (fun j hj => hstep j (List.mem_cons_of_mem i hj)) (hstep i List.mem_cons_self s t hs ht)

/-! ### A host write and the reads after it -/

/-- The registers a host write sets and no command changes (R25–R28). -/
def hostRegs : List Reg := [.a, .b, .key, .iv]

theorem exec_rdReg (r : Reg) (s : State) : exec (rdReg r) s = .next (respond (readReg r s) s) := by
  simp [rdReg, exec_rd, busRead]

theorem exists_exec_wrReg {r : Reg} (hr : r ∈ hostRegs) (v : Word) (s : State) :
    ∃ t : State, exec (wrReg r v) s = .next t ∧ readReg r t = v := by
  cases r <;> simp [hostRegs] at hr <;> exact ⟨_, rfl, rfl⟩

/-- Only a host write of the register changes A, B, KEY or IV (R251). -/
theorem readReg_eq_of_not_written {r : Reg} (hr : r ∈ hostRegs) {i : Instr} {s t : State}
    (hi : ∀ u, i ≠ .wr (regAddr r) u) (hx : exec i s = .next t) : readReg r t = readReg r s := by
  by_contra hne
  have heff := execEffect_of_exec hx
  have hwriter : ∃ u, i = .wr (regAddr r) u := by
    cases r with
    | a => exact writer_of_a_ne heff (.inl hne)
    | b => exact writer_of_b_ne heff (.inl hne)
    | key => exact writer_of_key_ne heff (.inl hne)
    | iv => exact writer_of_iv_ne heff hne
    | _ => simp [hostRegs] at hr
  obtain ⟨u, hu⟩ := hwriter
  exact hi u hu

/-- Settles O35: the write sets the register, and every instruction after it keeps its value. -/
theorem readSeesTheMostRecentWrite : Obligations.ReadSeesTheMostRecentWrite := by
  unfold Obligations.ReadSeesTheMostRecentWrite
  intro is s r v hr his
  obtain ⟨s₁, hwrite, hv⟩ := exists_exec_wrReg hr v s
  obtain ⟨t, hrun, ht⟩ := exists_runInstrs_of_invariant (P := fun t => readReg r t = v)
    (fun i hi _ _ hs hx => (readReg_eq_of_not_written hr (his i hi) hx).trans hs) hv
  refine ⟨t, respond (readReg r t) t, (runInstrs_cons is hwrite).trans hrun, exec_rdReg r t, ?_⟩
  rw [respond_responses, ht]

/-! ### The reserved addresses -/

/-- BAD_ADDR is code 2 (R270), and the first error stays (R271). -/
theorem recordError_badAddr (status : Word) :
    recordError .badAddr status = if status.getLsbD 1 then status else 0x0022#16 := rfl

section reserved
variable {addr : RegAddr} (haddr : 0xB ≤ addr.toNat) (s : State)
include haddr

theorem busRead_of_reserved : busRead addr s = respond 0x0000#16 (raiseError .badAddr s) := by
  simp [busRead, (regAt_eq_none_iff addr).2 haddr]

theorem busWrite_of_reserved (v : Word) : busWrite addr v s = raiseError .badAddr s := by
  simp [busWrite, (regAt_eq_none_iff addr).2 haddr]

end reserved

/-- Settles O29: an access to a reserved address is the recording of BAD_ADDR, and a read responds zero. -/
theorem reservedAddressRecordsBadAddr : Obligations.ReservedAddressRecordsBadAddr := by
  unfold Obligations.ReservedAddressRecordsBadAddr
  intro s addr v haddr
  rw [exec_rd, busRead_of_reserved haddr, exec_wr, busWrite_of_reserved haddr, ← recordError_badAddr]
  exact ⟨rfl, rfl⟩

end Sys2Proof.Machine
end

section
/-! ## The decoder (`30_encoding.md` R81–R85, R88)

`decodeCmd_cases` and `decodeTxn_cases` say once what a word of each format decodes to. -/

namespace Sys2Proof

/-! ### Command words -/

theorem encode_toInstr (c : Command) : encode c.toInstr = .cmd16 (encodeCmd c) := by cases c <;> rfl

theorem decode_cmd16_encodeCmd (c : Command) : decode (.cmd16 (encodeCmd c)) = .ok c.toInstr := by simp [decode]

theorem opcode_le (c : Command) : c.opcode.toNat ≤ 0xD := by cases c <;> decide

/-- Every opcode up to 0xD is a command's (R82). -/
theorem exists_opcode_eq {op : BitVec 4} (hop : op.toNat ≤ 0xD) : ∃ c : Command, c.opcode = op := by
  have hsome : ∀ o : BitVec 4, o.toNat ≤ 0xD → (commandOfOpcode o).isSome := by decide
  obtain ⟨c, hc⟩ := Option.isSome_iff_exists.1 (hsome op hop)
  exact ⟨c, opcode_of_commandOfOpcode op c hc⟩

/-- A word is a command's when its fields are (R81). -/
theorem eq_encodeCmd_of_fields {v : Word} {c : Command} (hrsvd : rsvdField v = 0#12) (hop : c.opcode = opField v) :
    v = encodeCmd c := by
  rw [encodeCmd, hop, ← hrsvd, rsvd_append_op]

/-- Every CMD value is the word of one command, or its fields are none's and it is illegal (R85). -/
theorem decodeCmd_cases (v : Word) :
    (∃ c : Command, v = encodeCmd c) ∨
    (¬(rsvdField v = 0#12 ∧ (opField v).toNat ≤ 0xD) ∧ decodeCmd v = .error .illegalCommand) := by
  cases hv : decodeCmd v with
  | ok c => exact .inl ⟨c, (encodeCmd_of_decodeCmd hv).symm⟩
  | error e =>
    rw [decodeCmd_error hv]
    refine .inr ⟨fun ⟨hrsvd, hop⟩ => ?_, rfl⟩
    obtain ⟨c, hc⟩ := exists_opcode_eq hop
    rw [eq_encodeCmd_of_fields hrsvd hc, decodeCmd_encodeCmd] at hv
    cases hv

/-- A value whose fields are no command's is illegal (R84). -/
theorem decodeCmd_of_illegal_fields {v : Word} (hv : ¬(rsvdField v = 0#12 ∧ (opField v).toNat ≤ 0xD)) :
    decodeCmd v = .error .illegalCommand := by
  obtain ⟨c, rfl⟩ | ⟨_, hill⟩ := decodeCmd_cases v
  · exact absurd ⟨rsvdField_encodeCmd c, opField_encodeCmd c ▸ opcode_le c⟩ hv
  · exact hill

/-! ### Transaction words -/

/-- Every 24-bit word is a write, a read, or refused for a nonzero Z or for a read's DATA (R88). -/
theorem decodeTxn_cases (w : TxnWord) :
    (∃ addr v, w = encodeWrite addr v) ∨ (∃ addr, w = encodeRead addr) ∨
    (txnReserved w ≠ 0#3 ∧ decodeTxn w = .error .reservedBitsSet) ∨
    (txnReserved w = 0#3 ∧ txnIsWrite w = false ∧ txnData w ≠ 0#16 ∧ decodeTxn w = .error .readWithData) := by
  have hw := txn_append_fields w
  by_cases hz : txnReserved w = 0#3
  · cases hwr : txnIsWrite w with
    | true =>
      rw [hz, hwr] at hw
      exact .inl ⟨txnAddr w, txnData w, hw.symm⟩
    | false =>
      by_cases hd : txnData w = 0#16
      · rw [hz, hwr, hd] at hw
        exact .inr (.inl ⟨txnAddr w, hw.symm⟩)
      · exact .inr (.inr (.inr ⟨hz, rfl, hd, by simp [decodeTxn, hz, hwr, hd]⟩))
  · exact .inr (.inr (.inl ⟨hz, by simp [decodeTxn, hz]⟩))

/-- What decodes to an instruction is its transaction record. -/
theorem decodeTxn_eq_ok_cases {w : TxnWord} {i : Instr} (h : decodeTxn w = .ok i) :
    (∃ addr v, i = .wr addr v ∧ w = encodeWrite addr v) ∨ ∃ addr, i = .rd addr ∧ w = encodeRead addr := by
  obtain ⟨addr, v, rfl⟩ | ⟨addr, rfl⟩ | ⟨_, herr⟩ | ⟨_, _, _, herr⟩ := decodeTxn_cases w
  · rw [decodeTxn_encodeWrite] at h
    cases h
    exact .inl ⟨addr, v, rfl, rfl⟩
  · rw [decodeTxn_encodeRead] at h
    cases h
    exact .inr ⟨addr, rfl, rfl⟩
  · simp [herr] at h
  · simp [herr] at h

theorem decodeTxn_eq_wr_iff (w : TxnWord) (addr : RegAddr) (v : Word) :
    decodeTxn w = .ok (.wr addr v) ↔ w = encodeWrite addr v := by
  constructor
  · intro h
    obtain ⟨_, _, hi, rfl⟩ | ⟨_, hi, _⟩ := decodeTxn_eq_ok_cases h <;> cases hi
    rfl
  · rintro rfl
    exact decodeTxn_encodeWrite addr v

theorem decodeTxn_eq_rd_iff (w : TxnWord) (addr : RegAddr) :
    decodeTxn w = .ok (.rd addr) ↔ w = encodeRead addr := by
  constructor
  · intro h
    obtain ⟨_, _, hi, _⟩ | ⟨_, hi, rfl⟩ := decodeTxn_eq_ok_cases h <;> cases hi
    rfl
  · rintro rfl
    exact decodeTxn_encodeRead addr

theorem decodeTxn_eq_reservedBitsSet_iff (w : TxnWord) :
    decodeTxn w = .error .reservedBitsSet ↔ txnReserved w ≠ 0#3 := by
  obtain ⟨addr, v, rfl⟩ | ⟨addr, rfl⟩ | ⟨hz, herr⟩ | ⟨hz, _, _, herr⟩ := decodeTxn_cases w
  · simp [decodeTxn_encodeWrite, (write_fields addr v).1]
  · simp [decodeTxn_encodeRead, (read_fields addr).1]
  · simp [herr, hz]
  · simp [herr, hz]

theorem decodeTxn_eq_readWithData_iff (w : TxnWord) :
    decodeTxn w = .error .readWithData ↔ txnReserved w = 0#3 ∧ txnIsWrite w = false ∧ txnData w ≠ 0#16 := by
  obtain ⟨addr, v, rfl⟩ | ⟨addr, rfl⟩ | ⟨hz, herr⟩ | ⟨hz, hread, hd, herr⟩ := decodeTxn_cases w
  · obtain ⟨_, hwrite, _, _⟩ := write_fields addr v
    simp [decodeTxn_encodeWrite, hwrite]
  · obtain ⟨_, _, _, hdata⟩ := read_fields addr
    simp [decodeTxn_encodeRead, hdata]
  · simp [herr, hz]
  · simp [herr, hz, hread, hd]

/-! ### The statements on decoding -/

/-- Settles O1: a command is decoded from its fields, a transaction from those of its record. -/
theorem decodeOfEncode : Obligations.DecodeOfEncode := by
  unfold Obligations.DecodeOfEncode
  intro i _
  obtain ⟨c, rfl⟩ | ⟨addr, rfl⟩ | ⟨addr, v, rfl⟩ := Machine.instr_cases i
  · rw [encode_toInstr, decode_cmd16_encodeCmd]
  · exact decodeTxn_encodeRead addr
  · exact decodeTxn_encodeWrite addr v

/-- Settles O2: what decodes at all is a command's word or a transaction's record. -/
theorem encodeOfDecode : Obligations.EncodeOfDecode := by
  unfold Obligations.EncodeOfDecode
  intro e i h
  cases e with
  | cmd16 v =>
    obtain ⟨c, rfl⟩ | ⟨_, hill⟩ := decodeCmd_cases v
    · rw [decode_cmd16_encodeCmd] at h
      cases h
      exact encode_toInstr c
    · simp [decode, hill] at h
  | txn24 w =>
    obtain ⟨addr, v, rfl, rfl⟩ | ⟨addr, rfl, rfl⟩ := decodeTxn_eq_ok_cases h <;> rfl

/-- Settles O3: a value whose fields are in the range is a command's word, and no other value is. -/
theorem commandDecodingIsTotal : Obligations.CommandDecodingIsTotal := by
  unfold Obligations.CommandDecodingIsTotal
  intro v
  refine ⟨fun hlegal => ?_, fun hillegal => decodeCmd_of_illegal_fields hillegal⟩
  obtain ⟨c, rfl⟩ | ⟨hillegal, _⟩ := decodeCmd_cases v
  · exact ⟨c, decodeCmd_encodeCmd c, (opField_encodeCmd c).symm⟩
  · exact absurd hlegal hillegal

/-- Settles O4: one lemma per clause. -/
theorem transactionRecordDecoding : Obligations.TransactionRecordDecoding := by
  unfold Obligations.TransactionRecordDecoding
  intro w addr v
  exact ⟨decodeTxn_eq_wr_iff w addr v, decodeTxn_eq_rd_iff w addr, decodeTxn_eq_reservedBitsSet_iff w,
    decodeTxn_eq_readWithData_iff w⟩

/-- Settles O5: the words are closed, and the decoder computes each. -/
theorem specWordsDecodeAsWritten : Obligations.SpecWordsDecodeAsWritten := by
  unfold Obligations.SpecWordsDecodeAsWritten
  decide

end Sys2Proof

namespace Sys2Proof.Machine

/-! ### The host write of an illegal command -/

/-- ILLEGAL_CMD is code 1 (R270), and the first error stays (R271). -/
theorem recordError_illegalCmd (status : Word) :
    recordError .illegalCmd status = if status.getLsbD 1 then status else 0x0012#16 := rfl

theorem performCmd_of_illegal {v : Word} (hv : decodeCmd v = .error .illegalCommand) (s : State) :
    performCmd v s = raiseError .illegalCmd (storeCmd v s) := by simp [performCmd, hv]

/-- Settles O31: none of the three forms has a command's fields, so the write stores the value and records the error. -/
theorem illegalCommandRecordsIllegalCmd : Obligations.IllegalCommandRecordsIllegalCmd := by
  unfold Obligations.IllegalCommandRecordsIllegalCmd
  intro s v hv
  have hfields : ¬(rsvdField v = 0#12 ∧ (opField v).toNat ≤ 0xD) := by
    rintro ⟨hrsvd, hop⟩
    obtain hne | hE | hF := hv
    · exact hne hrsvd
    · simp [opField, hE] at hop
    · simp [opField, hF] at hop
  have hwrite : exec (.wr 0x0#4 v) s = .next (performCmd v s) := exec_wr 0x0#4 v s
  rw [hwrite, performCmd_of_illegal (decodeCmd_of_illegal_fields hfields), ← recordError_illegalCmd]
  rfl

end Sys2Proof.Machine
end

section
/-! ## Script lines (`30_encoding.md` R89, R91)

A line is cut into tokens; a name in any capitals is a token and is looked up in lower case; a block is written and
read back. -/

namespace Sys2Proof.Machine

/-! ### The tokens of a line -/

/-- A character that neither ends a word nor begins a comment. -/
def isTokenChar (c : Char) : Bool := !isBlank c && c != ',' && c != ';'

theorem isTokenChar_iff (c : Char) : isTokenChar c = true ↔ isBlank c = false ∧ c ≠ ',' ∧ c ≠ ';' := by
  simp [isTokenChar, and_assoc]

/-- A word that stands in a line as one token. -/
def isToken (t : List Char) : Bool := !t.isEmpty && t.all isTokenChar

theorem isToken_iff (t : List Char) : isToken t = true ↔ t ≠ [] ∧ ∀ c ∈ t, isTokenChar c = true := by simp [isToken]

/-- A word's characters are gathered until something ends it. -/
theorem tokensFrom_append {t : List Char} (ht : ∀ c ∈ t, isTokenChar c = true) (word rest : List Char) :
    tokensFrom word (t ++ rest) = tokensFrom (word ++ t) rest := by
  induction t generalizing word with
  | nil => simp
  | cons c t ih =>
    obtain ⟨hblank, hcomma, _⟩ := (isTokenChar_iff c).1 (ht c List.mem_cons_self)
    rw [List.cons_append, tokensFrom]
    simp [hblank, hcomma, ih fun d hd => ht d (List.mem_cons_of_mem c hd)]

/-- A comment does not begin inside a token. -/
theorem takeWhile_token_append {t : List Char} (ht : isToken t = true) (rest : List Char) :
    (t ++ rest).takeWhile (· != ';') = t ++ rest.takeWhile (· != ';') := by
  refine List.takeWhile_append_of_pos fun c hc => ?_
  obtain ⟨_, _, hsemicolon⟩ := (isTokenChar_iff c).1 (((isToken_iff t).1 ht).2 c hc)
  simpa using hsemicolon

theorem flushWord_token {t : List Char} (ht : isToken t = true) (ts : List (List Char)) : flushWord t ts = t :: ts := by
  simp [flushWord, ((isToken_iff t).1 ht).1]

/-- A line that begins with a token. -/
theorem lineTokens_token_append {t : List Char} (ht : isToken t = true) (rest : List Char) :
    lineTokens (t ++ rest) = tokensFrom t (rest.takeWhile (· != ';')) := by
  rw [lineTokens, takeWhile_token_append ht, tokensFrom_append ((isToken_iff t).1 ht).2, List.nil_append]

theorem lineTokens_token {t : List Char} (ht : isToken t = true) : lineTokens t = [t] := by
  have h := lineTokens_token_append ht []
  rwa [List.append_nil, List.takeWhile_nil, tokensFrom, flushWord_token ht] at h

theorem lineTokens_token_blank {t : List Char} (ht : isToken t = true) (rest : List Char) :
    lineTokens (t ++ ' ' :: rest) = t :: lineTokens rest := by
  rw [lineTokens_token_append ht]
  simp [tokensFrom, isBlank, flushWord_token ht, lineTokens]

theorem lineTokens_token_comma {t : List Char} (ht : isToken t = true) (rest : List Char) :
    lineTokens (t ++ ',' :: rest) = t :: [','] :: lineTokens rest := by
  rw [lineTokens_token_append ht]
  simp [tokensFrom, isBlank, flushWord_token ht, lineTokens]

theorem lineTokens_blank (rest : List Char) : lineTokens (' ' :: rest) = lineTokens rest := by
  simp [lineTokens, tokensFrom, isBlank, flushWord]

/-! ### The statements a line can be (R89) -/

theorem parseLine_cmd {t : List Char} (ht : isToken t = true) :
    parseLine (['c', 'm', 'd'] ++ ' ' :: t) = (parseCmd t).map some := by
  rw [parseLine, lineTokens_token_blank (by decide), lineTokens_token ht]
  rfl

section registerLines
variable {r v : List Char} (hr : isToken r = true) (hv : isToken v = true)
include hr

theorem parseLine_rd : parseLine (['r', 'd'] ++ ' ' :: r) = (parseRead r none).map some := by
  rw [parseLine, lineTokens_token_blank (by decide), lineTokens_token hr]
  rfl

include hv

theorem parseLine_rd_expecting :
    parseLine (['r', 'd'] ++ ' ' :: (r ++ ' ' :: (['=', '>'] ++ ' ' :: v))) = (parseRead r (some v)).map some := by
  rw [parseLine, lineTokens_token_blank (by decide), lineTokens_token_blank hr, lineTokens_token_blank (by decide),
    lineTokens_token hv]
  rfl

theorem parseLine_wr :
    parseLine (['w', 'r'] ++ ' ' :: (r ++ ',' :: ' ' :: v)) = (parseWrite r v).map some := by
  rw [parseLine, lineTokens_token_blank (by decide), lineTokens_token_comma hr, lineTokens_blank, lineTokens_token hv]
  rfl

end registerLines

/-! ### Names in any mix of capitals -/

/-- Taking capitals away makes no token character of one that is none. -/
theorem isTokenChar_of_lowerChar {c : Char} (h : isTokenChar (lowerChar c) = true) : isTokenChar c = true := by
  by_contra hc
  obtain ((rfl | rfl) | rfl) | rfl | rfl : ((c = ' ' ∨ c = '\t') ∨ c = '\r') ∨ c = ',' ∨ c = ';' := by
    simpa [isTokenChar, isBlank, or_iff_not_imp_left] using hc
  all_goals revert h; decide

theorem isToken_of_map_lowerChar {t : List Char} (h : isToken (t.map lowerChar) = true) : isToken t = true := by
  rw [isToken_iff] at h ⊢
  obtain ⟨hne, hchars⟩ := h
  exact ⟨fun ht => hne (by rw [ht, List.map_nil]),
    fun c hc => isTokenChar_of_lowerChar (hchars _ (List.mem_map_of_mem hc))⟩

section regName
variable {name : List Char} {r : Reg} (h : (name.map lowerChar, r) ∈ regNames)
include h

theorem isToken_of_mem_regNames : isToken name = true := by
  have htokens : ∀ p ∈ regNames, isToken p.1 = true := by decide
  exact isToken_of_map_lowerChar (htokens _ h)

theorem parseReg_of_mem_regNames : parseReg name = .ok (regAddr r) := by
  have hlookup : ∀ p ∈ regNames, regNames.lookup p.1 = some p.2 := by decide
  simp [parseReg, hlookup _ h]

end regName

/-- The name is the command's mnemonic or one of its aliases, in any mix of capitals (R91). -/
def namesCommand (name : List Char) (c : Command) : Prop :=
  name.map lowerChar = (commandName c).map lowerChar ∨ (name.map lowerChar, c) ∈ aliasNames

/-- Only the lower case of a mnemonic counts. -/
theorem parseMnemonic_congr {t u : List Char} (h : t.map lowerChar = u.map lowerChar) :
    parseMnemonic t = parseMnemonic u := by simp only [parseMnemonic, h]

theorem parseMnemonic_commandName (c : Command) : parseMnemonic (commandName c) = .ok c := by cases c <;> rfl

theorem isToken_commandName (c : Command) : isToken ((commandName c).map lowerChar) = true := by cases c <;> rfl

section commandName
variable {name : List Char} {c : Command} (h : namesCommand name c)
include h

theorem isToken_of_namesCommand : isToken name = true := by
  refine isToken_of_map_lowerChar ?_
  obtain hname | halias := h
  · rw [hname, isToken_commandName]
  · have htokens : ∀ p ∈ aliasNames, isToken p.1 = true := by decide
    exact htokens _ halias

theorem parseMnemonic_of_namesCommand : parseMnemonic name = .ok c := by
  obtain hname | halias := h
  · rw [parseMnemonic_congr hname, parseMnemonic_commandName]
  · have haliases : ∀ p ∈ aliasNames, p.1.map lowerChar = p.1 ∧ parseMnemonic p.1 = .ok p.2 := by decide
    obtain ⟨hlower, hparse⟩ := haliases _ halias
    rw [parseMnemonic_congr hlower.symm, hparse]

end commandName

/-! ### Blocks written in hex -/

theorem hexDigit_upperHexDigit (n : Nibble) : hexDigit (upperHexDigit n) = some n := by revert n; decide

theorem isTokenChar_upperHexDigit (n : Nibble) : isTokenChar (upperHexDigit n) = true := by revert n; decide

section hex
variable (w : Word)

theorem isToken_encodeHex : isToken (encodeHex w) = true := by simp [isToken, encodeHex, isTokenChar_upperHexDigit]

theorem isToken_0x_encodeHex : isToken ('0' :: 'x' :: encodeHex w) = true := by
  have h0x : isTokenChar '0' = true ∧ isTokenChar 'x' = true := by decide
  simp [isToken, encodeHex, isTokenChar_upperHexDigit, h0x]

/-- The digits written are the block's nibbles, most significant first (R20, R232). -/
theorem hexDigits_encodeHex : hexDigits (encodeHex w) =
    some [(toBlock w).s00, (toBlock w).s10, (toBlock w).s01, (toBlock w).s11] := by
  simp [encodeHex, hexDigits, hexDigit_upperHexDigit]

theorem parseBlock_encodeHex : parseBlock (encodeHex w) = .ok w := by
  simp only [parseBlock, hexDigits_encodeHex]
  exact congrArg Except.ok (fromBlock_toBlock w)

theorem digitsValue_toBlock :
    digitsValue 16 [(toBlock w).s00, (toBlock w).s10, (toBlock w).s01, (toBlock w).s11] = w.toNat := by
  simp [digitsValue, toBlock, BitVec.extractLsb'_toNat, Nat.shiftRight_eq_div_pow]
  omega

theorem parseValue_0x_encodeHex : parseValue ('0' :: 'x' :: encodeHex w) = .ok w := by
  simp [parseValue, hexDigits_encodeHex, digitsValue_toBlock]

end hex

/-- A block string is a value of its own: `x` is no hex digit, so it does not begin with `0x`. -/
theorem parseValue_of_parseBlock {t : List Char} {w : Word} (h : parseBlock t = .ok w) : parseValue t = .ok w := by
  unfold parseValue
  split
  · have hx : hexDigit 'x' = none := by decide
    simp [parseBlock, hexDigits, hx] at h
  · simp [h]

/-! ### The statement on script lines -/

theorem parseCmd_of_namesCommand {name : List Char} {c : Command} (h : namesCommand name c) :
    parseCmd name = .ok { instr := .wr 0x0#4 (0#12 ++ c.opcode), expected := none } := by
  rw [parseCmd, parseMnemonic_of_namesCommand h]
  rfl

/-- Settles O60: the line's tokens are its words, each name is looked up and each value read back. -/
theorem scriptLinesIssueTheirTransactions : Obligations.ScriptLinesIssueTheirTransactions := by
  unfold Obligations.ScriptLinesIssueTheirTransactions
  refine ⟨fun c name hname => ?_, fun name r v hname => ?_⟩
  · have hline := parseLine_cmd (isToken_of_namesCommand hname)
    rwa [parseCmd_of_namesCommand hname] at hline
  · have htoken := isToken_of_mem_regNames hname
    have hreg := parseReg_of_mem_regNames hname
    refine ⟨?_, ?_, ?_⟩
    · have hline := parseLine_wr htoken (isToken_0x_encodeHex v)
      simpa [parseWrite, hreg, parseValue_0x_encodeHex, Except.map] using hline
    · have hline := parseLine_rd htoken
      simpa [parseRead, hreg, Except.map] using hline
    · have hline := parseLine_rd_expecting htoken (isToken_encodeHex v)
      simpa [parseRead, hreg, parseValue_of_parseBlock (parseBlock_encodeHex v), Except.map] using hline

end Sys2Proof.Machine
end

section
/-! ## Field arithmetic: its laws and the commands GFADD, GFMUL and MIXCOL (`40_field.md`, `41_round_transforms.md` R140)

`gmul` is read as a sum of doublings of its first operand, one for each bit of the second (`gmul_eq_doublingSum`).
The laws of R115, the forms of R118 and the congruence of R111 follow from that sum. -/

namespace Sys2Proof.Machine

open Sys2Proof.Safety

/-! ### The product as a sum of doublings -/

/-- `x` times one bit. -/
def scaled {n : Nat} (c : Bool) (x : BitVec n) : BitVec n := if c then x else 0#n

@[simp] theorem scaled_false {n : Nat} (x : BitVec n) : scaled false x = 0#n := rfl

@[simp] theorem scaled_true {n : Nat} (x : BitVec n) : scaled true x = x := rfl

theorem ite_xor_eq_xor_scaled {n : Nat} (c : Bool) (v w : BitVec n) :
    (if c then v ^^^ w else v) = v ^^^ scaled c w := by cases c <;> simp

theorem scaled_xor {n : Nat} (c d : Bool) (x : BitVec n) : scaled (c ^^ d) x = scaled c x ^^^ scaled d x := by
  cases c <;> cases d <;> simp

/-- Doubling is linear: the shift is, and the reduction adds 3 once for each summand whose high bit is set. -/
theorem doubled_xor (x y : Nibble) : doubled (x ^^^ y) = doubled x ^^^ doubled y := by
  have hdoubled : ∀ z : Nibble, doubled z = z <<< 1 ^^^ scaled (z.getLsbD 3) 0x3#4 := fun _ => rfl
  simp only [hdoubled, BitVec.shiftLeft_xor_distrib, BitVec.getLsbD_xor, scaled_xor]
  ac_rfl

theorem doubled_scaled (c : Bool) (x : Nibble) : doubled (scaled c x) = scaled c (doubled x) := by
  cases c
  · exact (by decide : doubled 0#4 = 0#4)
  · rfl

/-- The repeated doublings of `x`, one for each set bit of `y`. -/
def doublingSum (x y : Nibble) : Nibble :=
  scaled (y.getLsbD 0) x ^^^ scaled (y.getLsbD 1) (doubled x) ^^^ scaled (y.getLsbD 2) (doubled (doubled x)) ^^^
    scaled (y.getLsbD 3) (doubled (doubled (doubled x)))

/-- One pass of R111 adds `a` when the low bit of `b` is set, doubles `a` and drops that bit. -/
theorem gmulPass_eq (p a b : Nibble) :
    gmulPass ⟨p, a, b⟩ = ⟨p ^^^ scaled (b.getLsbD 0) a, doubled a, b >>> 1⟩ := by
  have hdouble : ∀ x : Nibble, (gmulPass ⟨0, x, 0⟩).a = doubled x := by decide
  have ha : (gmulPass ⟨p, a, b⟩).a = doubled a := hdouble a
  have hp : (gmulPass ⟨p, a, b⟩).p = p ^^^ scaled (b.getLsbD 0) a := by
    simp only [gmulPass, ite_xor_eq_xor_scaled]
  rw [← ha, ← hp]
  rfl

theorem gmul_eq_doublingSum (x y : Nibble) : gmul x y = doublingSum x y := by
  simp [gmul, gmulPass_eq, doublingSum, ← BitVec.shiftRight_add]

/-! ### The laws of the field (R113, R115) -/

/-- Checked over the 256 pairs, as R115 reports. -/
theorem gmul_comm : ∀ x y : Nibble, gmul x y = gmul y x := by decide

theorem gmul_zero (x : Nibble) : gmul x 0 = 0 := by simp [gmul_eq_doublingSum, doublingSum]

theorem gmul_one (x : Nibble) : gmul x 1 = x := by simp [gmul_eq_doublingSum, doublingSum]

theorem gmul_xor (x y z : Nibble) : gmul x (y ^^^ z) = gmul x y ^^^ gmul x z := by
  simp only [gmul_eq_doublingSum, doublingSum, BitVec.getLsbD_xor, scaled_xor]
  ac_rfl

theorem gmul_scaled (c : Bool) (x y : Nibble) : gmul x (scaled c y) = scaled c (gmul x y) := by
  cases c
  · exact gmul_zero x
  · rfl

theorem gmul_doubled (x y : Nibble) : gmul x (doubled y) = doubled (gmul x y) := by
  rw [gmul_comm x, gmul_comm x]
  simp only [gmul_eq_doublingSum, doublingSum, doubled_xor, doubled_scaled]

/-- Both sides are the doublings of `xy` that the bits of `z` name: multiplying by `x` passes through the sum. -/
theorem gmul_assoc (x y z : Nibble) : gmul (gmul x y) z = gmul x (gmul y z) := by
  simp only [gmul_eq_doublingSum _ z, doublingSum, gmul_xor, gmul_scaled, gmul_doubled]

theorem exists_gmul_eq_one : ∀ x : Nibble, x ≠ 0 → ∃ y : Nibble, gmul x y = 1 := by decide

/-- Two inverses of one nibble are equal: `z = z(xy) = (zx)y = y`. -/
theorem gmul_inverse_unique {x y z : Nibble} (hy : gmul x y = 1) (hz : gmul x z = 1) : z = y :=
  calc z = gmul z (gmul x y) := by rw [hy, gmul_one]
    _ = gmul (gmul x z) y := by rw [← gmul_assoc, gmul_comm z x]
    _ = y := by rw [hz, gmul_comm, gmul_one]

/-- Settles O48: `gadd` is XOR, the laws of `gmul` are those of its sum of doublings, and an inverse is unique. -/
theorem fieldLaws : Obligations.FieldLaws := by
  unfold Obligations.FieldLaws
  refine ⟨fun x y z => ⟨BitVec.xor_comm x y, BitVec.xor_self, BitVec.xor_zero, BitVec.xor_assoc x y z⟩,
    fun x y z => ⟨gmul_comm x y, gmul_assoc x y z, gmul_xor x y z, ?_⟩, fun x hx => ?_⟩
  · rw [gmul_comm, gmul_one]
  · obtain ⟨y, hy⟩ := exists_gmul_eq_one x hx
    exact ⟨y, hy, fun z hz => gmul_inverse_unique hy hz⟩

/-! ### The product as a remainder modulo `x^4+x+1` (R111) -/

/-- `r` is the remainder of the polynomial `w` modulo `x^4+x+1`. -/
def reducesTo (w : BitVec 8) (r : Nibble) : Prop :=
  ∃ q : BitVec 3, w = polyMul (q.setWidth 8) 0b10011#8 ^^^ r.setWidth 8

theorem isProductMod_iff (a b r : Nibble) :
    isProductMod a b r ↔ reducesTo (polyMul (a.setWidth 8) (b.setWidth 8)) r := Iff.rfl

/-- A multiple of `x^4+x+1` is the sum of three shifted copies. -/
theorem polyMul_fieldPoly (q : BitVec 8) : polyMul q 0b10011#8 = q ^^^ q <<< 1 ^^^ q <<< 4 := by
  simp [polyMul, List.range_succ]

/-- The product with a nibble is a sum of shifted copies. -/
theorem polyMul_setWidth (a : BitVec 8) (b : Nibble) :
    polyMul a (b.setWidth 8) = scaled (b.getLsbD 0) a ^^^ scaled (b.getLsbD 1) (a <<< 1) ^^^
      scaled (b.getLsbD 2) (a <<< 2) ^^^ scaled (b.getLsbD 3) (a <<< 3) := by
  simp only [polyMul, ite_xor_eq_xor_scaled]
  simp [List.range_succ]

/-- Remainders add. -/
theorem reducesTo_xor {v w : BitVec 8} {p r : Nibble} (hv : reducesTo v p) (hw : reducesTo w r) :
    reducesTo (v ^^^ w) (p ^^^ r) := by
  obtain ⟨q, rfl⟩ := hv
  obtain ⟨q', rfl⟩ := hw
  refine ⟨q ^^^ q', ?_⟩
  simp only [polyMul_fieldPoly, BitVec.setWidth_xor, BitVec.shiftLeft_xor_distrib]
  ac_rfl

theorem reducesTo_scaled (c : Bool) {w : BitVec 8} {r : Nibble} (h : reducesTo w r) :
    reducesTo (scaled c w) (scaled c r) := by
  cases c
  · exact ⟨0, (by decide : 0#8 = polyMul 0#8 0b10011#8 ^^^ 0#8)⟩
  · exact h

/-- A shifted nibble reduces to the nibble doubled as often. -/
theorem reducesTo_shifted : ∀ a : Nibble,
    reducesTo (a.setWidth 8) a ∧ reducesTo (a.setWidth 8 <<< 1) (doubled a) ∧
    reducesTo (a.setWidth 8 <<< 2) (doubled (doubled a)) ∧
    reducesTo (a.setWidth 8 <<< 3) (doubled (doubled (doubled a))) := by
  unfold reducesTo
  decide

/-- The loop of R111 computes the product modulo `x^4+x+1`. -/
theorem isProductMod_gmul (a b : Nibble) : isProductMod a b (gmul a b) := by
  obtain ⟨h0, h1, h2, h3⟩ := reducesTo_shifted a
  rw [isProductMod_iff, polyMul_setWidth, gmul_eq_doublingSum, doublingSum]
  exact reducesTo_xor (reducesTo_xor (reducesTo_xor (reducesTo_scaled _ h0) (reducesTo_scaled _ h1))
    (reducesTo_scaled _ h2)) (reducesTo_scaled _ h3)

/-! ### GFADD and GFMUL -/

/-- Zero-extending the low nibble clears the bits above it. -/
theorem zext16_nibbleOperand (w : Word) : zext16 (nibbleOperand w) = w &&& 0x000F#16 := by
  apply BitVec.eq_of_toNat_eq
  have hlt : w.toNat % 16 < 65536 := by omega
  simp [zext16, nibbleOperand, Nat.and_two_pow_sub_one_eq_mod _ 4, Nat.mod_eq_of_lt hlt]

theorem nibbleOperand_xor (v w : Word) : nibbleOperand (v ^^^ w) = gadd (nibbleOperand v) (nibbleOperand w) :=
  BitVec.extractLsb'_xor

theorem zext16_gadd_nibbleOperand (v w : Word) :
    zext16 (gadd (nibbleOperand v) (nibbleOperand w)) = (v ^^^ w) &&& 0x000F#16 := by
  rw [← zext16_nibbleOperand, nibbleOperand_xor]

theorem exec_gfadd (s : State) : exec .gfadd s = .next { s with
    cmd := 0x0001#16, result := zext16 (gadd (nibbleOperand s.a) (nibbleOperand s.b)), wRESULT := true } := rfl

/-- Settles O14: the XOR of the low nibbles is the low nibble of the XOR. -/
theorem gfaddAddsTheLowNibbles : Obligations.GfaddAddsTheLowNibbles := by
  unfold Obligations.GfaddAddsTheLowNibbles
  intro s
  refine ⟨decode_cmd16_encodeCmd .gfadd, by decide, ?_, faultsUnlessWritten_operandRegs .gfadd s⟩
  rw [exec_gfadd, zext16_gadd_nibbleOperand]

/-- Settles O15: `gmul` of the operands is the remainder of their product (`isProductMod_gmul`). -/
theorem gfmulMultipliesModuloThePolynomial : Obligations.GfmulMultipliesModuloThePolynomial := by
  unfold Obligations.GfmulMultipliesModuloThePolynomial
  intro s
  exact ⟨decode_cmd16_encodeCmd .gfmul, ⟨_, isProductMod_gmul _ _, rfl, exec_command .gfmul s⟩,
    faultsUnlessWritten_operandRegs .gfmul s⟩

/-! ### MIXCOL -/

/-- The bits of 2 leave one doubling in the sum (R118). -/
theorem gmul_two (x : Nibble) : gmul 2 x = doubled x := by
  rw [gmul_comm]
  simp [gmul_eq_doublingSum, doublingSum]

/-- The product by 3 is the product by 2 and the nibble itself (R118). -/
theorem gmul_three (x : Nibble) : gmul 3 x = tripled x :=
  calc gmul 3 x = gmul x (2 ^^^ 1) := gmul_comm 3 x
    _ = gmul 2 x ^^^ x := by rw [gmul_xor, gmul_one, gmul_comm]
    _ = tripled x := by rw [gmul_two, tripled]

theorem mixColumns_eq (s : Block) : mixColumns s =
    { s00 := tripled s.s00 ^^^ doubled s.s10, s10 := doubled s.s00 ^^^ tripled s.s10,
      s01 := tripled s.s01 ^^^ doubled s.s11, s11 := doubled s.s01 ^^^ tripled s.s11 } := by
  simp only [mixColumns, gadd, gmul_two, gmul_three]

theorem exec_mixcol (s : State) : exec .mixcol s = .next { s with
    cmd := 0x0006#16, result := fromBlock (mixColumns (toBlock s.a)), wRESULT := true } := rfl

/-- Settles O19: the matrix of R140 with its products in the forms of R118. -/
theorem mixcolMultipliesTheColumns : Obligations.MixcolMultipliesTheColumns := by
  unfold Obligations.MixcolMultipliesTheColumns
  refine ⟨fun x => ⟨gmul_two x, gmul_three x⟩, fun s => ?_⟩
  refine ⟨decode_cmd16_encodeCmd .mixcol, by decide, ?_, faultsUnlessWritten_operandRegs .mixcol s⟩
  rw [exec_mixcol, mixColumns_eq]
  rfl

end Sys2Proof.Machine
end

section
/-! ## The round transforms and their commands (`41_round_transforms.md`)

What SUBNIB, INVSUBNIB, SHIFTROWS and ADDRK do to a block, which transforms undo each other and which commute, stated
first of blocks and then of the commands; and which tables are S-boxes. -/

namespace Sys2Proof.Machine

open Sys2Proof.Safety

/-! ### The transforms of a block -/

theorem nibblesOf_eq_toBlock (w : Word) :
    nibblesOf w = [(toBlock w).s00, (toBlock w).s10, (toBlock w).s01, (toBlock w).s11] := rfl

theorem nibblesOf_fromBlock (s : Block) : nibblesOf (fromBlock s) = [s.s00, s.s10, s.s01, s.s11] := by
  rw [nibblesOf_eq_toBlock, toBlock_fromBlock]

/-- SubNibbles substitutes the nibbles of a word one by one (R133). -/
theorem nibblesOf_subNibbles (sb : SBox) (w : Word) :
    nibblesOf (fromBlock (subNibbles sb (toBlock w))) = (nibblesOf w).map (sboxForward sb) := nibblesOf_fromBlock _

@[simp] theorem subNibbles_invSubNibbles (sb : SBox) (s : Block) : subNibbles sb (invSubNibbles sb s) = s := by
  simp only [subNibbles, invSubNibbles, sboxForward_inverse]

@[simp] theorem invSubNibbles_subNibbles (sb : SBox) (s : Block) : invSubNibbles sb (subNibbles sb s) = s := by
  simp only [subNibbles, invSubNibbles, sboxInverse_forward]

@[simp] theorem shiftRows_shiftRows (s : Block) : shiftRows (shiftRows s) = s := rfl

/-- A substitution of the nibbles one by one does not see where they stand (R146). -/
theorem shiftRows_subNibbles (sb : SBox) (s : Block) : shiftRows (subNibbles sb s) = subNibbles sb (shiftRows s) := rfl

theorem shiftRows_invSubNibbles (sb : SBox) (s : Block) :
    shiftRows (invSubNibbles sb s) = invSubNibbles sb (shiftRows s) := rfl

/-- The second and the fourth nibble change places, as masks and shifts of the word (R137). -/
theorem fromBlock_shiftRows_toBlock (w : Word) : fromBlock (shiftRows (toBlock w)) =
    (w &&& 0xF0F0#16) ||| ((w &&& 0x0F00#16) >>> 8) ||| ((w &&& 0x000F#16) <<< 8) := by
  apply BitVec.eq_of_getLsbD_eq
  intro i hi
  simp only [fromBlock, shiftRows, toBlock, BitVec.getLsbD_append, BitVec.getLsbD_extractLsb', BitVec.getLsbD_or,
    BitVec.getLsbD_and, BitVec.getLsbD_ushiftRight, BitVec.getLsbD_shiftLeft]
  interval_cases i <;> simp

/-- `3(3x + 2y) + 2(2x + 3y) = (3·3 + 2·2)x = x`, since the terms in `y` cancel. -/
theorem gmul_column_cancel (x y : Nibble) :
    gmul 3 (gmul 3 x ^^^ gmul 2 y) ^^^ gmul 2 (gmul 2 x ^^^ gmul 3 y) = x := by
  have hcross : gmul 2 (gmul 3 y) = gmul 3 (gmul 2 y) := by rw [← gmul_assoc, gmul_comm 2 3, gmul_assoc]
  calc gmul 3 (gmul 3 x ^^^ gmul 2 y) ^^^ gmul 2 (gmul 2 x ^^^ gmul 3 y)
    _ = (gmul (gmul 3 3) x ^^^ gmul 3 (gmul 2 y)) ^^^ (gmul (gmul 2 2) x ^^^ gmul 3 (gmul 2 y)) := by
      rw [gmul_xor, gmul_xor, hcross, gmul_assoc, gmul_assoc]
    _ = (gmul (gmul 3 3) x ^^^ gmul (gmul 2 2) x) ^^^ (gmul 3 (gmul 2 y) ^^^ gmul 3 (gmul 2 y)) := by ac_rfl
    _ = gmul x (gmul 3 3 ^^^ gmul 2 2) := by
      rw [BitVec.xor_self, BitVec.xor_zero, gmul_xor, gmul_comm x, gmul_comm x]
    _ = x := gmul_one x

/-- MixColumns is its own inverse (R142). The second nibble of a column is the first one of the column turned over. -/
@[simp] theorem mixColumns_mixColumns (s : Block) : mixColumns (mixColumns s) = s := by
  have hlow (x y : Nibble) : gmul 2 (gmul 3 x ^^^ gmul 2 y) ^^^ gmul 3 (gmul 2 x ^^^ gmul 3 y) = y := by
    rw [BitVec.xor_comm, BitVec.xor_comm (gmul 2 x), BitVec.xor_comm (gmul 3 x), gmul_column_cancel]
  simp only [mixColumns, gadd, gmul_column_cancel, hlow]

/-- AddRoundKey is the XOR of the words (R143). -/
theorem toBlock_xor (v w : Word) : toBlock (v ^^^ w) = addRoundKey (toBlock v) (toBlock w) := by
  simp only [toBlock, addRoundKey, gadd, BitVec.extractLsb'_xor]

@[simp] theorem fromBlock_addRoundKey_toBlock (v w : Word) :
    fromBlock (addRoundKey (toBlock v) (toBlock w)) = v ^^^ w := by
  rw [← toBlock_xor, fromBlock_toBlock]

/-! ### SUBNIB, INVSUBNIB, SHIFTROWS and ADDRK -/

theorem exec_subnib (s : State) : exec .subnib s = .next { s with
    cmd := 0x0003#16, result := fromBlock (subNibbles s.config.sbox (toBlock s.a)), wRESULT := true } := rfl

theorem exec_invsubnib (s : State) : exec .invsubnib s = .next { s with
    cmd := 0x0004#16, result := fromBlock (invSubNibbles s.config.sbox (toBlock s.a)), wRESULT := true } := rfl

theorem exec_shiftrows (s : State) : exec .shiftrows s = .next { s with
    cmd := 0x0005#16, result := fromBlock (shiftRows (toBlock s.a)), wRESULT := true } := rfl

theorem exec_addrk (s : State) : exec .addrk s = .next { s with
    cmd := 0x0007#16, result := fromBlock (addRoundKey (toBlock s.a) (toBlock s.b)), wRESULT := true } := rfl

/-- Settles O16: the block's substitution is that of its nibbles in the table. -/
theorem subnibSubstitutesEachNibble : Obligations.SubnibSubstitutesEachNibble := by
  unfold Obligations.SubnibSubstitutesEachNibble
  intro s
  exact ⟨decode_cmd16_encodeCmd .subnib, ⟨_, exec_subnib s, rfl, nibblesOf_subNibbles s.config.sbox s.a⟩,
    faultsUnlessWritten_operandRegs .subnib s⟩

/-- Settles O17: RESULT is the word whose substitution is A (`subNibbles_invSubNibbles`). -/
theorem invsubnibUndoesTheSubstitution : Obligations.InvsubnibUndoesTheSubstitution := by
  unfold Obligations.InvsubnibUndoesTheSubstitution
  intro s
  refine ⟨decode_cmd16_encodeCmd .invsubnib, ⟨_, exec_invsubnib s, rfl, ?_⟩,
    faultsUnlessWritten_operandRegs .invsubnib s⟩
  change (nibblesOf (fromBlock (invSubNibbles s.config.sbox (toBlock s.a)))).map (sboxForward s.config.sbox) = _
  rw [← nibblesOf_subNibbles, toBlock_fromBlock, subNibbles_invSubNibbles, fromBlock_toBlock]

/-- Settles O18: SHIFTROWS as masks and shifts of A. -/
theorem shiftrowsSwapsRowOne : Obligations.ShiftrowsSwapsRowOne := by
  unfold Obligations.ShiftrowsSwapsRowOne
  intro s
  refine ⟨decode_cmd16_encodeCmd .shiftrows, by decide, ?_, faultsUnlessWritten_operandRegs .shiftrows s⟩
  rw [exec_shiftrows, fromBlock_shiftRows_toBlock]

/-- Settles O20: adding the nibbles of B to those of A is the XOR of the words. -/
theorem addrkXorsAWithB : Obligations.AddrkXorsAWithB := by
  unfold Obligations.AddrkXorsAWithB
  intro s
  refine ⟨decode_cmd16_encodeCmd .addrk, ?_, faultsUnlessWritten_operandRegs .addrk s⟩
  rw [exec_addrk, fromBlock_addRoundKey_toBlock]

/-! ### RESULT after a transform command -/

section resultOf
variable (a b : Word) (s : State)

@[simp] theorem resultOf_subnib : resultOf .subnib a b s = fromBlock (subNibbles s.config.sbox (toBlock a)) := rfl

@[simp] theorem resultOf_invsubnib :
    resultOf .invsubnib a b s = fromBlock (invSubNibbles s.config.sbox (toBlock a)) := rfl

@[simp] theorem resultOf_shiftrows : resultOf .shiftrows a b s = fromBlock (shiftRows (toBlock a)) := rfl

@[simp] theorem resultOf_mixcol : resultOf .mixcol a b s = fromBlock (mixColumns (toBlock a)) := rfl

@[simp] theorem resultOf_addrk : resultOf .addrk a b s = a ^^^ b := fromBlock_addRoundKey_toBlock a b

end resultOf

/-- Settles O50: the inverse laws of the block transforms, read at RESULT. -/
theorem transformsAreUndone : Obligations.TransformsAreUndone := by
  unfold Obligations.TransformsAreUndone
  intro s x k
  refine ⟨?_, ?_, ?_, ?_, ?_⟩
  · rw [resultOf_invsubnib, resultOf_subnib, toBlock_fromBlock, invSubNibbles_subNibbles, fromBlock_toBlock]
  · rw [resultOf_subnib, resultOf_invsubnib, toBlock_fromBlock, subNibbles_invSubNibbles, fromBlock_toBlock]
  · rw [resultOf_shiftrows, resultOf_shiftrows, toBlock_fromBlock, shiftRows_shiftRows, fromBlock_toBlock]
  · rw [resultOf_mixcol, resultOf_mixcol, toBlock_fromBlock, mixColumns_mixColumns, fromBlock_toBlock]
  · rw [resultOf_addrk, resultOf_addrk, BitVec.xor_assoc, BitVec.xor_self, BitVec.xor_zero]

/-- Settles O51: `shiftRows` commutes with both substitutions of a block. -/
theorem shiftrowsCommutesWithSubstitution : Obligations.ShiftrowsCommutesWithSubstitution := by
  unfold Obligations.ShiftrowsCommutesWithSubstitution
  intro s x b c hc
  obtain rfl | rfl : c = .subnib ∨ c = .invsubnib := by simpa using hc
  · simp only [resultOf_shiftrows, resultOf_subnib, toBlock_fromBlock, shiftRows_subNibbles]
  · simp only [resultOf_shiftrows, resultOf_invsubnib, toBlock_fromBlock, shiftRows_invSubNibbles]

/-! ### The tables that are S-boxes (R132) -/

/-- A table without a repeat, as the function it stands for. -/
theorem nodup_toList_iff_injective (t : Vector Nibble 16) :
    t.toList.Nodup ↔ Function.Injective fun x : Nibble => t[x.toNat] := by
  refine ⟨fun h => sboxForward_injective ⟨t, h⟩, fun hinj => List.nodup_iff_injective_getElem.2 fun i j hij => ?_⟩
  have hi : i.1 < 16 := by simpa using i.2
  have hj : j.1 < 16 := by simpa using j.2
  have hnib : BitVec.ofNatLT (w := 4) i.1 hi = BitVec.ofNatLT j.1 hj := hinj (by simpa using hij)
  exact Fin.ext (by simpa using congrArg BitVec.toNat hnib)

/-- An S-box is made of a table exactly when the table has no repeat (log 6). -/
theorem exists_sboxOfTable_iff (t : Vector Nibble 16) :
    (∃ sb : SBox, sboxOfTable t = some sb ∧ sb.table = t) ↔ t.toList.Nodup := by
  constructor
  · rintro ⟨sb, -, rfl⟩
    exact sb.perm
  · intro h
    exact ⟨⟨t, h⟩, dif_pos h, rfl⟩

/-- Settles O49: sixteen entries without a repeat take every nibble exactly once, the nibbles being sixteen too. -/
theorem onlyPermutationsAreSboxes : Obligations.OnlyPermutationsAreSboxes := by
  unfold Obligations.OnlyPermutationsAreSboxes
  refine ⟨dif_pos defaultSBox.perm, by decide, fun t => ?_⟩
  rw [exists_sboxOfTable_iff, nodup_toList_iff_injective, Finite.injective_iff_bijective,
    Function.bijective_iff_existsUnique]
  rfl

end Sys2Proof.Machine
end

section
/-! ## The key schedule and EXPANDKEY (`42_key_schedule.md`)

RK0 is KEY itself (`expandKey_k0`), so the recurrence of R161 has to be followed for RK1 and RK2 only. -/

namespace Sys2Proof.Machine

theorem exec_expandkey (s : State) : exec .expandkey s = .next { s with
    cmd := 0x0008#16
    rk0 := (expandKey s.config.sbox s.key).k0
    rk1 := (expandKey s.config.sbox s.key).k1
    rk2 := (expandKey s.config.sbox s.key).k2
    wRK := true } := rfl

/-- Settles O21: the first four nibbles are those of KEY, and each equation of the recurrence gives the next one. -/
theorem expandkeyWritesTheRoundKeys : Obligations.ExpandkeyWritesTheRoundKeys := by
  unfold Obligations.ExpandkeyWritesTheRoundKeys
  intro s
  refine ⟨_, _, _, _, _, _, _, _, _, _, _, _, (nibblesOf_eq_toBlock s.key).symm, rfl, rfl, rfl, rfl, rfl, rfl, rfl, rfl,
    decode_cmd16_encodeCmd .expandkey, ?_, faultsUnlessWritten_operandRegs .expandkey s⟩
  rw [exec_expandkey, expandKey_k0]
  rfl

end Sys2Proof.Machine
end

section
/-! ## Tracing never changes a result (`43_cipher.md` R191)

Two states differ at most in tracing exactly when they agree once tracing is erased (`untraced`), and a step of the core
without a trace is the step of the core with its trace erased afterwards. -/

namespace Sys2Proof.Machine

open Sys2Proof.Safety

/-! ### Erasing the trace -/

/-- The state with another trace log and another TRACE_ENABLED. -/
def withTracing (log : List TraceRecord) (enabled : Bool) (s : State) : State :=
  { s with trace := log, config := { s.config with traceEnabled := enabled } }

/-- The same core built without a trace. -/
def untraced (s : State) : State := withTracing [] false s

/-- An outcome with the trace of its next state erased. -/
def untracedOutcome (o : StepResult) : StepResult := andThen o fun t => .next (untraced t)

@[simp] theorem untraced_inbox (s : State) : (untraced s).inbox = s.inbox := rfl

@[simp] theorem untracedOutcome_next (s : State) : untracedOutcome (.next s) = .next (untraced s) := rfl

@[simp] theorem untracedOutcome_refused (r : Refusal) : untracedOutcome (.refused r) = .refused r := rfl

/-- Erasing loses what `sameButTrace` leaves open and nothing else. -/
theorem sameButTrace_iff_untraced_eq (s t : State) : sameButTrace s t ↔ untraced s = untraced t := by
  constructor
  · intro h
    have hs : withTracing s.trace s.config.traceEnabled t = s := h
    exact (congrArg untraced hs).symm
  · intro h
    exact (congrArg (withTracing s.trace s.config.traceEnabled) h).symm

theorem outcomesRelated_of_untracedOutcome_eq {o p : StepResult} (h : untracedOutcome o = untracedOutcome p) :
    outcomesRelated sameButTrace o p := by
  cases o with
  | next s =>
    cases p with
    | next t => exact (sameButTrace_iff_untraced_eq s t).2 (Host.Outcome.next.inj h)
    | fault | refused => nomatch h
  | fault =>
    cases p with
    | fault => exact Host.Outcome.fault.inj h
    | next | refused => nomatch h
  | refused =>
    cases p with
    | refused => exact Host.Outcome.refused.inj h
    | next | fault => nomatch h

/-! ### A core without a trace performs the same -/

@[simp] theorem readReg_untraced (r : Reg) (s : State) : readReg r (untraced s) = readReg r s := by cases r <;> rfl

/-- The engine's records reach the log alone (R190). -/
theorem doCommand_untraced (c : Command) (s : State) : doCommand c (untraced s) = untraced (doCommand c s) := by
  cases c <;> rfl

theorem performCmd_untraced (v : Word) (s : State) : performCmd v (untraced s) = untraced (performCmd v s) := by
  unfold performCmd
  cases decodeCmd v with
  | ok c => exact doCommand_untraced c (storeCmd v s)
  | error e => rfl

theorem busRead_untraced (addr : RegAddr) (s : State) : busRead addr (untraced s) = untraced (busRead addr s) := by
  unfold busRead
  cases regAt addr with
  | none => rfl
  | some r => exact congrArg (respond · (untraced s)) (readReg_untraced r s)

theorem busWrite_untraced (addr : RegAddr) (v : Word) (s : State) :
    busWrite addr v (untraced s) = untraced (busWrite addr v s) := by
  unfold busWrite
  cases regAt addr with
  | none => rfl
  | some r =>
    cases r with
    | cmd => exact performCmd_untraced v s
    | _ => rfl

theorem exec_untraced (i : Instr) (s : State) : exec i (untraced s) = untracedOutcome (exec i s) := by
  obtain ⟨c, rfl⟩ | ⟨addr, rfl⟩ | ⟨addr, v, rfl⟩ := instr_cases i
  · rw [exec_command, exec_command]
    exact congrArg _ (doCommand_untraced c (storeCmd (encodeCmd c) s))
  · exact congrArg _ (busRead_untraced addr s)
  · exact congrArg _ (busWrite_untraced addr v s)

theorem step_untraced (s : State) : step (untraced s) = untracedOutcome (step s) := by
  obtain ⟨hin, hstep⟩ | ⟨rest, hin, hstep⟩ | ⟨w, rest, i, hin, hw, hstep⟩ | ⟨w, rest, e, hin, hw, hstep⟩ :=
    step_cases s
  · simp [step, hin]
  · rw [hstep]
    simp only [step, untraced_inbox, hin, untracedOutcome_next]
    rfl
  · rw [hstep, step_of_txn (s := untraced s) hin hw]
    exact exec_untraced i (withInbox rest s)
  · simp [step, hin, hw]

theorem runSteps_untraced (n : Nat) (s : State) : runSteps n (untraced s) = untracedOutcome (runSteps n s) := by
  induction n generalizing s with
  | zero => rfl
  | succ n ih =>
    calc runSteps (n + 1) (untraced s)
        = andThen (untracedOutcome (step s)) (runSteps n) := by rw [runSteps, step_untraced]
      _ = andThen (step s) fun t => untracedOutcome (runSteps n t) := by
          simp only [untracedOutcome, andThen_assoc, andThen_next, ih]
      _ = untracedOutcome (runSteps (n + 1) s) := (andThen_assoc _ _ _).symm

/-- Settles O41: what `n` steps give with the trace erased depends on the state with the trace erased alone. -/
theorem tracingNeverChangesAResult : Obligations.TracingNeverChangesAResult := by
  unfold Obligations.TracingNeverChangesAResult
  intro n s t h
  apply outcomesRelated_of_untracedOutcome_eq
  rw [← runSteps_untraced, ← runSteps_untraced, (sameButTrace_iff_untraced_eq s t).1 h]

end Sys2Proof.Machine
end

section
/-! ## The cipher and its commands (`43_cipher.md`)

ENCRYPT and DECRYPT as the transform commands one after the other, what they depend on, and that each undoes the
other. -/

namespace Sys2Proof.Machine

open Sys2Proof.Safety

/-! ### The eight steps -/

/-- ADDRK on the nibbles, as the engine does it. -/
theorem resultOf_addrk_eq_addRoundKey (a b : Word) (s : State) :
    resultOf .addrk a b s = fromBlock (addRoundKey (toBlock a) (toBlock b)) := rfl

theorem exec_encrypt (s : State) : exec .encrypt s = .next { s with
    cmd := 0x0009#16
    result := encryptBlock s.config.sbox s.a s.key
    wRESULT := true
    trace := if s.config.traceEnabled then s.trace ++ (encryptRun s.config.sbox s.a s.key).records else s.trace } := rfl

theorem exec_decrypt (s : State) : exec .decrypt s = .next { s with
    cmd := 0x000A#16
    result := decryptBlock s.config.sbox s.a s.key
    wRESULT := true
    trace := if s.config.traceEnabled then s.trace ++ (decryptRun s.config.sbox s.a s.key).records else s.trace } := rfl

/-- Settles O22: the engine hands blocks from step to step and the commands words, and `toBlock` takes back the word a
block was put in. -/
theorem encryptRunsTheEightSteps : Obligations.EncryptRunsTheEightSteps := by
  unfold Obligations.EncryptRunsTheEightSteps
  intro s
  refine ⟨_, _, _, _, _, _, _, _, _, exec_expandkey s, rfl, rfl, rfl, rfl, rfl, rfl, rfl, rfl,
    decode_cmd16_encodeCmd .encrypt, by decide, ?_, faultsUnlessWritten_operandRegs .encrypt s⟩
  simp only [exec_encrypt, encryptBlock, encryptRun, resultOf_addrk_eq_addRoundKey, resultOf_subnib,
    resultOf_shiftrows, resultOf_mixcol, toBlock_fromBlock]

/-- Settles O23: as for ENCRYPT, in the document's order of the inverse steps. -/
theorem decryptRunsTheEightSteps : Obligations.DecryptRunsTheEightSteps := by
  unfold Obligations.DecryptRunsTheEightSteps
  intro s
  refine ⟨_, _, _, _, _, _, _, _, _, exec_expandkey s, rfl, rfl, rfl, rfl, rfl, rfl, rfl, rfl,
    decode_cmd16_encodeCmd .decrypt, by decide, ?_, faultsUnlessWritten_operandRegs .decrypt s⟩
  simp only [exec_decrypt, decryptBlock, decryptRun, resultOf_addrk_eq_addRoundKey, resultOf_invsubnib,
    resultOf_shiftrows, resultOf_mixcol, toBlock_fromBlock]

/-! ### What the cipher depends on -/

/-- A program completes and leaves the configuration alone (R302). -/
theorem exists_runInstrs_config_eq (is : List Instr) (s : State) :
    ∃ t : State, runInstrs is s = .next t ∧ t.config = s.config :=
  exists_runInstrs_of_invariant (P := fun t => t.config = s.config)
    (fun _ _ _ _ hs hx => (config_and_inbox_eq_of_execEffect (execEffect_of_exec hx)).1.trans hs) rfl

/-- RESULT of ENCRYPT and of DECRYPT is a function of SBOX, A and KEY (R187). -/
theorem doCommand_cipher_result_congr {c : Command} (hc : c ∈ [Command.encrypt, .decrypt]) {s t : State}
    (hsbox : s.config.sbox = t.config.sbox) (ha : s.a = t.a) (hkey : s.key = t.key) :
    (doCommand c s).result = (doCommand c t).result := by
  obtain rfl | rfl : c = .encrypt ∨ c = .decrypt := by simpa using hc
  · change encryptBlock s.config.sbox s.a s.key = encryptBlock t.config.sbox t.a t.key
    rw [hsbox, ha, hkey]
  · change decryptBlock s.config.sbox s.a s.key = decryptBlock t.config.sbox t.a t.key
    rw [hsbox, ha, hkey]

/-- Settles O39: before the command both cores hold the same S-box, block and key. -/
theorem cipherDependsOnlyOnBlockKeyAndSbox : Obligations.CipherDependsOnlyOnBlockKeyAndSbox := by
  unfold Obligations.CipherDependsOnlyOnBlockKeyAndSbox
  intro is js s t a k hsbox c hc
  obtain ⟨s₁, hs, hscfg⟩ := exists_runInstrs_config_eq is s
  obtain ⟨t₁, ht, htcfg⟩ := exists_runInstrs_config_eq js t
  refine ⟨doCommand c (storeCmd (encodeCmd c) (writeKey k (writeA a s₁))),
    doCommand c (storeCmd (encodeCmd c) (writeA a (writeKey k t₁))), ?_, ?_, ?_⟩
  · simp [runInstrs_append _ hs, runInstrs, wrReg, exec_wr, exec_command]
  · simp [runInstrs_append _ ht, runInstrs, wrReg, exec_wr, exec_command]
  · exact doCommand_cipher_result_congr hc (by simp [hscfg, htcfg, hsbox]) rfl rfl

/-! ### Each direction undoes the other (R185) -/

@[simp] theorem addRoundKey_addRoundKey (s k : Block) : addRoundKey (addRoundKey s k) k = s := by
  simp only [addRoundKey, gadd, BitVec.xor_assoc, BitVec.xor_self, BitVec.xor_zero]

@[simp] theorem decryptBlock_encryptBlock (sb : SBox) (p k : Word) :
    decryptBlock sb (encryptBlock sb p k) k = p := by
  simp only [decryptBlock, decryptRun, encryptBlock, encryptRun, toBlock_fromBlock, addRoundKey_addRoundKey,
    shiftRows_shiftRows, invSubNibbles_subNibbles, mixColumns_mixColumns, fromBlock_toBlock]

@[simp] theorem encryptBlock_decryptBlock (sb : SBox) (c k : Word) :
    encryptBlock sb (decryptBlock sb c k) k = c := by
  simp only [decryptBlock, decryptRun, encryptBlock, encryptRun, toBlock_fromBlock, addRoundKey_addRoundKey,
    shiftRows_shiftRows, subNibbles_invSubNibbles, mixColumns_mixColumns, fromBlock_toBlock]

@[simp] theorem resultOf_encrypt (a b : Word) (s : State) :
    resultOf .encrypt a b s = encryptBlock s.config.sbox a s.key := rfl

@[simp] theorem resultOf_decrypt (a b : Word) (s : State) :
    resultOf .decrypt a b s = decryptBlock s.config.sbox a s.key := rfl

/-- Settles O52: the last step of one direction meets its inverse as the first step of the other, and so on inwards. -/
theorem decryptUndoesEncrypt : Obligations.DecryptUndoesEncrypt := by
  unfold Obligations.DecryptUndoesEncrypt
  intro s x b
  rw [resultOf_encrypt, resultOf_decrypt, resultOf_decrypt, resultOf_encrypt]
  exact ⟨decryptBlock_encryptBlock _ x _, encryptBlock_decryptBlock _ x _⟩

end Sys2Proof.Machine
end

section
/-! ## The mode commands and CHAIN (`44_modes.md` R211–R217) -/

namespace Sys2Proof.Machine

open Sys2Proof.Safety

/-! ### CBCINIT, CBCENC and CBCDEC -/

theorem exec_cbcinit (s : State) : exec .cbcinit s = .next { s with cmd := 0x000B#16, chain := s.iv } := rfl

theorem exec_cbcenc (s : State) : exec .cbcenc s = .next { s with
    cmd := 0x000C#16
    result := encryptBlock s.config.sbox (s.a ^^^ s.chain) s.key
    wRESULT := true
    chain := encryptBlock s.config.sbox (s.a ^^^ s.chain) s.key
    trace := if s.config.traceEnabled then s.trace ++ (encryptRun s.config.sbox (s.a ^^^ s.chain) s.key).records
      else s.trace } := rfl

theorem exec_cbcdec (s : State) : exec .cbcdec s = .next { s with
    cmd := 0x000D#16
    result := decryptBlock s.config.sbox s.a s.key ^^^ s.chain
    wRESULT := true
    chain := s.a
    trace := if s.config.traceEnabled then s.trace ++ (decryptRun s.config.sbox s.a s.key).records
      else s.trace } := rfl

/-- Settles O24: CBCINIT reads IV alone, which has no written flag. -/
theorem cbcinitSeedsTheChain : Obligations.CbcinitSeedsTheChain := by
  unfold Obligations.CbcinitSeedsTheChain
  intro s
  exact ⟨decode_cmd16_encodeCmd .cbcinit, exec_cbcinit s, faultsUnlessWritten_operandRegs .cbcinit s⟩

/-- Settles O25: CBCENC and ENCRYPT run the engine on one block and key. -/
theorem cbcencEncryptsAndChains : Obligations.CbcencEncryptsAndChains := by
  unfold Obligations.CbcencEncryptsAndChains
  intro s
  exact ⟨decode_cmd16_encodeCmd .cbcenc, ⟨_, exec_encrypt _, exec_cbcenc s⟩,
    faultsUnlessWritten_operandRegs .cbcenc s⟩

/-- Settles O26: CBCDEC and DECRYPT run the engine on one block and key. -/
theorem cbcdecDecryptsAndChains : Obligations.CbcdecDecryptsAndChains := by
  unfold Obligations.CbcdecDecryptsAndChains
  intro s
  exact ⟨decode_cmd16_encodeCmd .cbcdec, ⟨_, exec_decrypt s, exec_cbcdec s⟩,
    faultsUnlessWritten_operandRegs .cbcdec s⟩

/-! ### Who writes CHAIN, and how a host restores it -/

/-- An instruction that performs none of the three chaining commands keeps CHAIN (R215). -/
theorem chain_eq_of_not_performs {i : Instr} (hi : ∀ c ∈ chainCommands, ¬ performs i c) {s t : State}
    (hx : exec i s = .next t) : t.chain = s.chain := by
  by_contra hne
  obtain ⟨c, hc, hperforms⟩ := writer_of_chain_ne (execEffect_of_exec hx) hne
  exact hi c hc hperforms

/-- Settles O37: CHAIN's value is an invariant of every instruction of the program. -/
theorem otherCommandsLeaveTheChain : Obligations.OtherCommandsLeaveTheChain := by
  unfold Obligations.OtherCommandsLeaveTheChain
  intro is s his
  refine exists_runInstrs_of_invariant (P := fun t => t.chain = s.chain) (fun i hi u t hu hx => ?_) rfl
  have hnone : ∀ c ∈ chainCommands, ¬ performs i c := by simpa [chainCommands] using his i hi
  exact (chain_eq_of_not_performs hnone hx).trans hu

/-- The core after `wr IV, v; cmd CBCINIT` (R217, R237). -/
def seedChain (v : Word) (s : State) : State := doCommand .cbcinit (storeCmd (encodeCmd .cbcinit) (writeIv v s))

theorem runInstrs_seedChain (v : Word) (is : List Instr) (s : State) :
    runInstrs (wrReg .iv v :: cmdTxn .cbcinit :: is) s = runInstrs is (seedChain v s) := by
  simp [runInstrs, wrReg, cmdTxn, exec_wr, seedChain]

/-- Settles O38: the read responds CHAIN, and CBCINIT takes it back from IV whatever came between. -/
theorem savedChainCanBeRestored : Obligations.SavedChainCanBeRestored := by
  unfold Obligations.SavedChainCanBeRestored
  intro is s
  obtain ⟨t, ht, -⟩ := exists_runInstrs_config_eq is (respond s.chain s)
  refine ⟨s.chain, respond s.chain s, seedChain s.chain t, exec_rdReg .chain s, rfl, ?_, rfl⟩
  rw [runInstrs_append _ ht, runInstrs_seedChain, runInstrs_nil]

end Sys2Proof.Machine
end

section
/-! ## Blocks one after the other (`44_modes.md` R214, R219, R236–R238)

`runInstrs_blocks` says once what the scripts of a list of blocks leave behind. -/

namespace Sys2Proof.Machine

open Sys2Proof.Safety

/-! ### The script of a list of blocks -/

/-- The core after `wr A, b; cmd X; rd RESULT`. -/
def afterBlock (c : Command) (b : Word) (s : State) : State :=
  let t := doCommand c (storeCmd (encodeCmd c) (writeA b s))
  respond t.result t

/-- The core after the scripts of the blocks in order. -/
def afterBlocks (c : Command) : List Word → State → State
  | [], s => s
  | b :: bs, s => afterBlocks c bs (afterBlock c b s)

/-- The responses those scripts bring, which are RESULT after each block. -/
def blockResults (c : Command) : List Word → State → List Word
  | [], _ => []
  | b :: bs, s => (afterBlock c b s).result :: blockResults c bs (afterBlock c b s)

section afterBlock
variable (c : Command) (b : Word) (s : State)

@[simp] theorem afterBlock_key : (afterBlock c b s).key = s.key := by simp [afterBlock]
@[simp] theorem afterBlock_config : (afterBlock c b s).config = s.config := by simp [afterBlock]
@[simp] theorem afterBlock_responses : (afterBlock c b s).responses = s.responses ++ [(afterBlock c b s).result] := by
  simp [afterBlock]

end afterBlock

theorem runInstrs_blockScript (c : Command) (b : Word) (s : State) :
    runInstrs (blockScript c b) s = .next (afterBlock c b s) := by
  simp [blockScript, runInstrs, wrReg, cmdTxn, exec_wr, exec_rdReg, readReg, afterBlock]

theorem runInstrs_blocks (c : Command) (bs : List Word) (s : State) :
    runInstrs (bs.flatMap (blockScript c)) s = .next (afterBlocks c bs s) := by
  induction bs generalizing s with
  | nil => rfl
  | cons b bs ih => rw [List.flatMap_cons, runInstrs_append _ (runInstrs_blockScript c b s), ih, afterBlocks]

theorem afterBlocks_responses (c : Command) (bs : List Word) (s : State) :
    (afterBlocks c bs s).responses = s.responses ++ blockResults c bs s := by
  induction bs generalizing s with
  | nil => simp [afterBlocks, blockResults]
  | cons b bs ih => simp [afterBlocks, blockResults, ih]

/-- Commands that leave CHAIN alone leave it alone block after block (R215). -/
theorem afterBlocks_chain_of_not_mem {c : Command} (hc : c ∉ chainCommands) (bs : List Word) (s : State) :
    (afterBlocks c bs s).chain = s.chain := by
  induction bs generalizing s with
  | nil => rfl
  | cons b bs ih => simp [afterBlocks, ih, afterBlock, doCommand_chain_of_not_mem hc]

/-! ### ECB: each block on its own (R214, R236) -/

theorem resultOf_eq_doCommand_result (c : Command) (a b : Word) (s : State) :
    resultOf c a b s = (doCommand c (storeCmd (encodeCmd c) { s with a := a, b := b })).result := by
  rw [resultOf, exec_command]

/-- A block's result is the command's on that block, in any core with the same KEY and SBOX. -/
theorem afterBlock_result_eq_resultOf {c : Command} (hc : c ∈ [Command.encrypt, .decrypt]) {s t : State}
    (hkey : s.key = t.key) (hsbox : s.config.sbox = t.config.sbox) (a b : Word) :
    (afterBlock c a s).result = resultOf c a b t := by
  rw [resultOf_eq_doCommand_result, afterBlock, respond_result]
  exact doCommand_cipher_result_congr hc hsbox rfl hkey

theorem blockResults_eq_map_resultOf {c : Command} (hc : c ∈ [Command.encrypt, .decrypt]) {s t : State}
    (hkey : s.key = t.key) (hsbox : s.config.sbox = t.config.sbox) (bs : List Word) (b : Word) :
    blockResults c bs s = bs.map fun a => resultOf c a b t := by
  induction bs generalizing s with
  | nil => rfl
  | cons a bs ih =>
    rw [blockResults, List.map_cons, afterBlock_result_eq_resultOf hc hkey hsbox a b,
      ih ((afterBlock_key c a s).trans hkey) ((congrArg Config.sbox (afterBlock_config c a s)).trans hsbox)]

/-- The results of two lists of blocks stand side by side, the second as if the first had not come before (R236). -/
theorem blockResults_append {c : Command} (hc : c ∈ [Command.encrypt, .decrypt]) (bs cs : List Word) (s : State) :
    blockResults c (bs ++ cs) s = blockResults c bs s ++ blockResults c cs s := by
  simp only [blockResults_eq_map_resultOf hc (t := s) rfl rfl _ 0#16, List.map_append]

/-- Settles O54: KEY and SBOX stay as they are from block to block. -/
theorem ecbBlocksAreIndependent : Obligations.EcbBlocksAreIndependent := by
  unfold Obligations.EcbBlocksAreIndependent
  intro s key blocks c hc
  have hchain : c ∉ chainCommands := by
    obtain rfl | rfl : c = .encrypt ∨ c = .decrypt := by simpa using hc
    all_goals decide
  have hresults := blockResults_eq_map_resultOf hc (s := writeKey key s) (t := { s with key := key }) rfl rfl blocks s.b
  refine ⟨afterBlocks c blocks (writeKey key s), runInstrs_blocks c blocks (writeKey key s),
    afterBlocks_chain_of_not_mem hchain blocks _, ?_⟩
  rw [afterBlocks_responses, writeKey_responses, hresults]

/-- Decrypting what ECB encryption gave, in any core with the same KEY and SBOX. -/
theorem blockResults_decrypt_encrypt {s t : State} (hkey : t.key = s.key) (hsbox : t.config.sbox = s.config.sbox)
    (ps : List Word) : blockResults .decrypt (blockResults .encrypt ps s) t = ps := by
  rw [blockResults_eq_map_resultOf (by decide) (t := s) rfl rfl ps 0#16,
    blockResults_eq_map_resultOf (by decide) hkey hsbox _ 0#16, List.map_map]
  simp [Function.comp_def]

/-! ### CBC: the chain runs through both directions alike (R219) -/

/-- The cores hold the same CHAIN, KEY and SBOX. -/
def sameChaining (s t : State) : Prop := t.chain = s.chain ∧ t.key = s.key ∧ t.config.sbox = s.config.sbox

section cbcBlock
variable (b : Word) (s : State)

theorem afterBlock_cbcenc_result :
    (afterBlock .cbcenc b s).result = encryptBlock s.config.sbox (b ^^^ s.chain) s.key := rfl

theorem afterBlock_cbcenc_chain : (afterBlock .cbcenc b s).chain = (afterBlock .cbcenc b s).result := rfl

theorem afterBlock_cbcdec_result :
    (afterBlock .cbcdec b s).result = decryptBlock s.config.sbox b s.key ^^^ s.chain := rfl

theorem afterBlock_cbcdec_chain : (afterBlock .cbcdec b s).chain = b := rfl

end cbcBlock

section roundTrip
variable {s t : State} (h : sameChaining s t)
include h

/-- CBCDEC takes away the CHAIN that CBCENC put into the block. -/
theorem afterBlock_cbcdec_cbcenc_result (p : Word) :
    (afterBlock .cbcdec (afterBlock .cbcenc p s).result t).result = p := by
  obtain ⟨hchain, hkey, hsbox⟩ := h
  rw [afterBlock_cbcdec_result, afterBlock_cbcenc_result, hchain, hkey, hsbox, decryptBlock_encryptBlock,
    BitVec.xor_assoc, BitVec.xor_self, BitVec.xor_zero]

/-- Both directions chain the ciphertext. -/
theorem sameChaining_afterBlock (p : Word) :
    sameChaining (afterBlock .cbcenc p s) (afterBlock .cbcdec (afterBlock .cbcenc p s).result t) := by
  obtain ⟨-, hkey, hsbox⟩ := h
  exact ⟨rfl, by simpa using hkey, by simpa using hsbox⟩

theorem blockResults_cbcdec_cbcenc (ps : List Word) :
    blockResults .cbcdec (blockResults .cbcenc ps s) t = ps := by
  induction ps generalizing s t with
  | nil => rfl
  | cons p ps ih =>
    rw [blockResults, blockResults, afterBlock_cbcdec_cbcenc_result h, ih (sameChaining_afterBlock h p)]

end roundTrip

theorem afterBlocks_cbcenc_chain (ps : List Word) (s : State) :
    (afterBlocks .cbcenc ps s).chain = (blockResults .cbcenc ps s).getLastD s.chain := by
  induction ps generalizing s with
  | nil => rfl
  | cons p ps ih => rw [afterBlocks, ih, afterBlock_cbcenc_chain, blockResults, List.getLastD_cons]

theorem afterBlocks_cbcdec_chain (cs : List Word) (s : State) :
    (afterBlocks .cbcdec cs s).chain = cs.getLastD s.chain := by
  induction cs generalizing s with
  | nil => rfl
  | cons c cs ih => rw [afterBlocks, ih, afterBlock_cbcdec_chain, List.getLastD_cons]

/-- Settles O53: block by block CBCDEC gives CBCENC's block back, and both cores go on with the same CHAIN. -/
theorem cbcBlocksRoundTrip : Obligations.CbcBlocksRoundTrip := by
  unfold Obligations.CbcBlocksRoundTrip
  intro s s' ps hchain hkey hsbox
  refine ⟨blockResults .cbcenc ps s, _, _, runInstrs_blocks .cbcenc ps s, afterBlocks_responses .cbcenc ps s,
    runInstrs_blocks .cbcdec _ s', ?_, afterBlocks_cbcenc_chain ps s, ?_⟩
  · rw [afterBlocks_responses, blockResults_cbcdec_cbcenc ⟨hchain, hkey, hsbox⟩]
  · rw [afterBlocks_cbcdec_chain, hchain]

end Sys2Proof.Machine
end

section
/-! ## Messages and their digits (`44_modes.md` R231–R234)

A message is read digit by digit, its digits are framed into blocks, and blocks are written as their nibbles. -/

namespace Sys2Proof.Machine

open Sys2Proof.Safety

/-! ### Framing -/

/-- The blocks' nibbles are the digits and the padding at the low end of the last block (R234). -/
theorem flatMap_nibblesOf_frameDigits (ds : List Nibble) :
    (frameDigits ds).flatMap nibblesOf = ds ++ List.replicate ((4 - ds.length % 4) % 4) 0#4 := by
  induction ds using frameDigits.induct with
  | case1 => rfl
  | case2 | case3 | case4 => simp [frameDigits, nibblesOf_fromBlock, List.replicate_succ]
  | case5 a b c d rest ih =>
    have hmod : (a :: b :: c :: d :: rest).length % 4 = rest.length % 4 := Nat.add_mod_right rest.length 4
    rw [hmod, frameDigits, List.flatMap_cons, nibblesOf_fromBlock, ih]
    rfl

theorem length_frameDigits (ds : List Nibble) : (frameDigits ds).length = (ds.length + 3) / 4 := by
  induction ds using frameDigits.induct with
  | case1 => rfl
  | case2 | case3 | case4 => simp [frameDigits]
  | case5 a b c d rest ih =>
    simp only [frameDigits, List.length_cons, ih]
    omega

/-- Settles O55: whole blocks are split off from the front, and what is left gives the padding. -/
theorem framingPadsWithZeroDigits : Obligations.FramingPadsWithZeroDigits := by
  unfold Obligations.FramingPadsWithZeroDigits
  intro ds
  exact ⟨flatMap_nibblesOf_frameDigits ds, length_frameDigits ds⟩

/-- Digits that fill whole blocks are framed apart from the digits after them (R234). -/
theorem frameDigits_append {ds : List Nibble} (h : ds.length % 4 = 0) (es : List Nibble) :
    frameDigits (ds ++ es) = frameDigits ds ++ frameDigits es := by
  induction ds using frameDigits.induct with
  | case1 => rfl
  | case2 | case3 | case4 => simp at h
  | case5 a b c d rest ih =>
    have hrest : rest.length % 4 = 0 := (Nat.add_mod_right rest.length 4).symm.trans h
    simp only [List.cons_append, frameDigits, ih hrest]

/-- The nibbles of blocks are framed into those blocks. -/
theorem frameDigits_flatMap_nibblesOf (ws : List Word) : frameDigits (ws.flatMap nibblesOf) = ws := by
  induction ws with
  | nil => rfl
  | cons w ws ih =>
    have hw : frameDigits (nibblesOf w) = [w] := by
      rw [nibblesOf_eq_toBlock, frameDigits, frameDigits]
      exact congrArg ([·]) (fromBlock_toBlock w)
    have hlength : (nibblesOf w).length % 4 = 0 := by simp [nibblesOf]
    rw [List.flatMap_cons, frameDigits_append hlength, hw, ih, List.singleton_append]

/-! ### Digits as characters -/

/-- A string is read character by character (R231). -/
theorem hexDigits_eq_some_iff {cs : List Char} {ds : List Nibble} :
    hexDigits cs = some ds ↔ cs.map hexDigit = ds.map some := by
  induction cs generalizing ds with
  | nil => cases ds <;> simp [hexDigits]
  | cons c cs ih =>
    cases ds with
    | nil => cases hc : hexDigit c <;> cases hcs : hexDigits cs <;> simp [hexDigits, hc, hcs]
    | cons d ds =>
      simp only [hexDigits, List.map_cons, List.cons.injEq, ← ih]
      cases hexDigit c <;> cases hexDigits cs <;> simp

theorem hexDigits_append {cs cs' : List Char} {ds ds' : List Nibble} (h : hexDigits cs = some ds)
    (h' : hexDigits cs' = some ds') : hexDigits (cs ++ cs') = some (ds ++ ds') := by
  rw [hexDigits_eq_some_iff] at *
  rw [List.map_append, List.map_append, h, h']

theorem length_eq_of_hexDigits {cs : List Char} {ds : List Nibble} (h : hexDigits cs = some ds) :
    ds.length = cs.length := by
  simpa using (congrArg List.length (hexDigits_eq_some_iff.1 h)).symm

theorem hexDigits_of_nonhex {cs : List Char} (h : ∃ c ∈ cs, hexDigit c = none) : hexDigits cs = none := by
  obtain ⟨c, hc, hnone⟩ := h
  rw [Option.eq_none_iff_forall_ne_some]
  intro ds hds
  have hmem : hexDigit c ∈ ds.map some := hexDigits_eq_some_iff.1 hds ▸ List.mem_map_of_mem hc
  simp [hnone] at hmem

/-- A digit is written back as its character in upper case (R231, R232): all digits lie below code 103. -/
theorem upperHexDigit_of_hexDigit {c : Char} {d : Nibble} (h : hexDigit c = some d) : upperHexDigit d = c.toUpper := by
  have hall : ∀ n < 103, ∀ e ∈ hexDigit (Char.ofNat n), upperHexDigit e = (Char.ofNat n).toUpper := by decide
  have hlt : c.toNat < 103 := by
    by_contra hge
    simp only [hexDigit] at h
    split_ifs at h <;> omega
  have hd := hall c.toNat hlt d
  rw [Char.ofNat_toNat] at hd
  exact hd h

theorem map_upperHexDigit_of_hexDigits {cs : List Char} {ds : List Nibble} (h : hexDigits cs = some ds) :
    ds.map upperHexDigit = cs.map Char.toUpper := by
  rw [hexDigits_eq_some_iff] at h
  induction cs generalizing ds with
  | nil => simpa using h
  | cons c cs ih =>
    cases ds with
    | nil => simp at h
    | cons d ds =>
      obtain ⟨hc, hcs⟩ := List.cons.inj h
      rw [List.map_cons, List.map_cons, upperHexDigit_of_hexDigit hc, ih hcs]

/-- A message is written as the nibbles of its blocks (R232). -/
theorem encodeMessage_eq_map (ws : List Word) : encodeMessage ws = (ws.flatMap nibblesOf).map upperHexDigit := by
  rw [List.map_flatMap]
  rfl

theorem encodeMessage_append (ws vs : List Word) : encodeMessage (ws ++ vs) = encodeMessage ws ++ encodeMessage vs :=
  List.flatMap_append

/-- The digits of an output message are its blocks' nibbles. -/
theorem hexDigits_encodeMessage (ws : List Word) : hexDigits (encodeMessage ws) = some (ws.flatMap nibblesOf) := by
  simp [hexDigits_eq_some_iff, encodeMessage_eq_map, Function.comp_def, hexDigit_upperHexDigit]

/-- Framed and written out again, a message is itself in upper case with its padding (R232, R234). -/
theorem encodeMessage_frameDigits {msg : List Char} {ds : List Nibble} (h : hexDigits msg = some ds) :
    encodeMessage (frameDigits ds) =
      msg.map Char.toUpper ++ List.replicate ((4 - msg.length % 4) % 4) '0' := by
  have hzero : upperHexDigit 0#4 = '0' := by decide
  rw [encodeMessage_eq_map, flatMap_nibblesOf_frameDigits, List.map_append, List.map_replicate, hzero,
    map_upperHexDigit_of_hexDigits h, length_eq_of_hexDigits h]

end Sys2Proof.Machine
end

section
/-! ## The driver (`44_modes.md` R230–R244)

`driveMode_of_validCall` says once what a valid call answers; the statements on the driver's output follow from it. -/

namespace Sys2Proof.Machine

open Sys2Proof.Safety

/-! ### A valid call -/

/-- The core before the first block: `wr KEY, k`, and in CBC mode the seeding of the chain (R236, R237). -/
def modeStart (m : Mode) (k v : Word) (s : State) : State :=
  match m with
  | .ecb => writeKey k s
  | .cbc => seedChain v (writeKey k s)

/-- The command a mode issues for each block. -/
def modeCommand (ecbCmd cbcCmd : Command) : Mode → Command
  | .ecb => ecbCmd
  | .cbc => cbcCmd

@[simp] theorem modeStart_responses (m : Mode) (k v : Word) (s : State) :
    (modeStart m k v s).responses = s.responses := by cases m <;> rfl

section driver
variable (ecbCmd cbcCmd : Command)

theorem runInstrs_modeScript (m : Mode) (k v : Word) (bs : List Word) (s : State) :
    runInstrs (modeScript ecbCmd cbcCmd m k v bs) s =
      .next (afterBlocks (modeCommand ecbCmd cbcCmd m) bs (modeStart m k v s)) := by
  have hkey : exec (wrReg .key k) s = .next (writeKey k s) := exec_wr _ k s
  cases m with
  | ecb => exact (runInstrs_cons _ hkey).trans (runInstrs_blocks ecbCmd bs _)
  | cbc =>
    rw [modeScript, cbcScript, runInstrs_cons _ hkey, runInstrs_seedChain, runInstrs_blocks]
    rfl

/-- What a call answers whose arguments are valid: the blocks' results, and the core the script leaves (R232, R241). -/
def modeDone (m : Mode) (k v : Word) (bs : List Word) (s : State) : DriverDone where
  output := encodeMessage (blockResults (modeCommand ecbCmd cbcCmd m) bs (modeStart m k v s))
  core := afterBlocks (modeCommand ecbCmd cbcCmd m) bs (modeStart m k v s)

theorem driveScript_modeScript (m : Mode) (k v : Word) (bs : List Word) (s : State) :
    driveScript (modeScript ecbCmd cbcCmd m k v bs) s = .next (modeDone ecbCmd cbcCmd m k v bs s) := by
  simp [driveScript, runInstrs_modeScript, afterBlocks_responses, modeDone]

variable {msg mode : List Char} {key : KeyArg} {iv : Option Int} {ds : List Nibble} {k v : Word} {m : Mode}

theorem driveMode_of_validCall (h : validCall msg key mode iv ds k m v) (s : State) :
    driveMode ecbCmd cbcCmd msg key mode iv s = .ok (.next (modeDone ecbCmd cbcCmd m k v (frameDigits ds) s)) := by
  obtain ⟨hmsg, hkey, hmode, hiv⟩ := h
  simp only [driveMode, parseMessage, hmsg, hkey, hmode, hiv, driveScript_modeScript]

/-! ### The arguments that are refused (R231, R233, R240) -/

theorem parseBlock_of_malformed {cs : List Char} (h : cs.length ≠ 4 ∨ ∃ c ∈ cs, hexDigit c = none) :
    parseBlock cs = .error .formatError := by
  unfold parseBlock
  split
  · rename_i a b c d hcs
    obtain hlength | hnonhex := h
    · exact absurd (length_eq_of_hexDigits hcs).symm hlength
    · simp [hexDigits_of_nonhex hnonhex] at hcs
  · rfl

theorem parseKey_number_of_out_of_range {n : Int} (h : n < 0 ∨ 0xFFFF < n) :
    parseKey (.number n) = .error .rangeError := if_neg (by omega)

theorem parseIv_of_out_of_range {n : Int} (h : n < 0 ∨ 0xFFFF < n) : parseIv (some n) = .error .rangeError :=
  if_neg (by simp only [Option.getD_some]; omega)

theorem parseMode_of_unknown {cs : List Char} (hecb : cs ≠ ['E', 'C', 'B']) (hcbc : cs ≠ ['C', 'B', 'C']) :
    parseMode cs = .error .formatError := by simp only [parseMode, hecb, hcbc, if_false]

theorem driveMode_of_nonhex_message (h : ∃ c ∈ msg, hexDigit c = none) (s : State) :
    driveMode ecbCmd cbcCmd msg key mode iv s = .error .formatError := by
  simp only [driveMode, parseMessage, hexDigits_of_nonhex h]

section refusals
variable {e : DriverError} (hmsg : hexDigits msg = some ds)
include hmsg

theorem driveMode_of_refused_key (hkey : parseKey key = .error e) (s : State) :
    driveMode ecbCmd cbcCmd msg key mode iv s = .error e := by simp only [driveMode, parseMessage, hmsg, hkey]

variable (hkey : parseKey key = .ok k)
include hkey

theorem driveMode_of_refused_mode (hmode : parseMode mode = .error e) (s : State) :
    driveMode ecbCmd cbcCmd msg key mode iv s = .error e := by simp only [driveMode, parseMessage, hmsg, hkey, hmode]

theorem driveMode_of_refused_iv (hmode : parseMode mode = .ok m) (hiv : parseIv iv = .error e) (s : State) :
    driveMode ecbCmd cbcCmd msg key mode iv s = .error e := by
  simp only [driveMode, parseMessage, hmsg, hkey, hmode, hiv]

end refusals

end driver

/-- The two functions of the driver are `driveMode` with a command for each mode (R230). -/
theorem exists_driveMode_of_mem {f} (hf : f ∈ [encryptMode, decryptMode]) :
    ∃ ecbCmd cbcCmd : Command, f = driveMode ecbCmd cbcCmd := by
  obtain rfl | rfl : f = encryptMode ∨ f = decryptMode := by simpa using hf
  · exact ⟨.encrypt, .cbcenc, rfl⟩
  · exact ⟨.decrypt, .cbcdec, rfl⟩

/-- Settles O56: one lemma per argument, each with the arguments checked before it valid. -/
theorem driverChecksItsArguments : Obligations.DriverChecksItsArguments := by
  unfold Obligations.DriverChecksItsArguments
  intro msg key mode iv s f hf
  obtain ⟨ecbCmd, cbcCmd, rfl⟩ := exists_driveMode_of_mem hf
  refine ⟨fun h => driveMode_of_nonhex_message _ _ h s, fun ds k m v hvalid => ?_⟩
  obtain ⟨hmsg, hkey, hmode, -⟩ := id hvalid
  exact ⟨⟨_, driveMode_of_validCall _ _ hvalid s⟩,
    fun cs h => driveMode_of_refused_key (key := .hex cs) _ _ hmsg (parseBlock_of_malformed h) s,
    fun n h => driveMode_of_refused_key _ _ hmsg (parseKey_number_of_out_of_range h) s,
    fun cs hecb hcbc => driveMode_of_refused_mode _ _ hmsg hkey (parseMode_of_unknown hecb hcbc) s,
    fun n h => driveMode_of_refused_iv _ _ hmsg hkey hmode (parseIv_of_out_of_range h) s⟩

/-! ### The output of a valid call -/

/-- Settles O57: the script has no block, so it ends where the mode starts. -/
theorem emptyMessageGivesEmptyOutput : Obligations.EmptyMessageGivesEmptyOutput := by
  unfold Obligations.EmptyMessageGivesEmptyOutput
  intro key k iv v s hkey hiv f hf
  obtain ⟨ecbCmd, cbcCmd, rfl⟩ := exists_driveMode_of_mem hf
  have hecb : validCall [] key ['E', 'C', 'B'] iv [] k .ecb v := ⟨rfl, hkey, rfl, hiv⟩
  have hcbc : validCall [] key ['C', 'B', 'C'] iv [] k .cbc v := ⟨rfl, hkey, rfl, hiv⟩
  exact ⟨driveMode_of_validCall ecbCmd cbcCmd hecb s, driveMode_of_validCall ecbCmd cbcCmd hcbc s⟩

/-- Settles O58: the first message fills its blocks, so the two are framed apart. -/
theorem ecbOfConcatenation : Obligations.EcbOfConcatenation := by
  unfold Obligations.EcbOfConcatenation
  intro m1 m2 key iv ds1 ds2 k v s hlen h1 h2
  obtain ⟨hm1, hkey, hmode, hiv⟩ := id h1
  obtain ⟨hm2, -⟩ := id h2
  have h12 : validCall (m1 ++ m2) key ['E', 'C', 'B'] iv (ds1 ++ ds2) k .ecb v :=
    ⟨hexDigits_append hm1 hm2, hkey, hmode, hiv⟩
  have hds1 : ds1.length % 4 = 0 := by rw [length_eq_of_hexDigits hm1, hlen]
  refine ⟨_, _, _, driveMode_of_validCall _ _ h12 s, driveMode_of_validCall _ _ h1 s,
    driveMode_of_validCall _ _ h2 s, ?_⟩
  simp only [frameDigits_append hds1, modeDone, modeCommand, blockResults_append (c := .encrypt) (by decide),
    encodeMessage_append]

/-- Decrypting the blocks a mode's encryption gave, on any core with the same S-box (R185, R219). -/
theorem blockResults_mode_roundTrip {s t : State} (hsbox : t.config.sbox = s.config.sbox) (m : Mode) (k v : Word)
    (ps : List Word) :
    blockResults (modeCommand .decrypt .cbcdec m)
      (blockResults (modeCommand .encrypt .cbcenc m) ps (modeStart m k v s)) (modeStart m k v t) = ps := by
  cases m with
  | ecb => exact blockResults_decrypt_encrypt (s := modeStart .ecb k v s) (t := modeStart .ecb k v t) rfl hsbox ps
  | cbc =>
    have hchaining : sameChaining (modeStart .cbc k v s) (modeStart .cbc k v t) := ⟨rfl, rfl, hsbox⟩
    exact blockResults_cbcdec_cbcenc hchaining ps

/-- Settles O59: the output's digits are framed into the result blocks, which decrypt to the blocks of the message. -/
theorem messageRoundTrip : Obligations.MessageRoundTrip := by
  unfold Obligations.MessageRoundTrip
  intro msg key mode iv ds k m v s s' hvalid hsbox
  obtain ⟨hmsg, hkey, hmode, hiv⟩ := id hvalid
  refine ⟨_, _, driveMode_of_validCall _ _ hvalid s,
    driveMode_of_validCall _ _ ⟨hexDigits_encodeMessage _, hkey, hmode, hiv⟩ s', ?_⟩
  rw [frameDigits_flatMap_nibblesOf, modeDone, blockResults_mode_roundTrip hsbox, encodeMessage_frameDigits hmsg]

end Sys2Proof.Machine
end

section
/-! ## Host access (`45_host_access.md` R250–R255)

The transactions one by one, and what a command reads. The runs and programs under the fault of R33 come last: a sent
program ends as the program does, because a checked instruction does not look at the inputs after it. -/

namespace Sys2Proof.Machine

open Sys2Proof.Safety

/-! ### The step and the commands -/

theorem step_of_bad_txn {s : State} {w : TxnWord} {rest : List HostInput} {e : DecodeError}
    (hin : s.inbox = .txn w :: rest) (hw : decodeTxn w = .error e) : step s = .refused (.notATransaction e) := by
  simp [step, hin, hw]

/-- Settles O6: the step performs what the word decodes to, and a word that issues an instruction decodes to one of the
same meaning. -/
theorem stepPerformsTheDecodedInstruction : Obligations.StepPerformsTheDecodedInstruction := by
  unfold Obligations.StepPerformsTheDecodedInstruction
  intro s w rest hin
  refine ⟨fun i hw => step_of_txn hin hw, fun i hw => ?_, fun e hw => step_of_bad_txn hin hw⟩
  subst hw
  exact step_of_txnOfInstr hin

/-- Settles O12: a value that decodes to a command is that command's word. -/
theorem cmdWritePerformsTheCommand : Obligations.CmdWritePerformsTheCommand := by
  unfold Obligations.CmdWritePerformsTheCommand
  intro v c s hv
  obtain rfl := encodeCmd_of_decodeCmd hv
  rw [exec_wr_encodeCmd, exec_command]
  exact ⟨rfl, _, rfl, by simp⟩

theorem exec_nop (s : State) : exec .nop s = .next { s with cmd := 0x0000#16 } := rfl

/-- Settles O13: NOP is the store of its word in CMD and reads no register. -/
theorem nopChangesOnlyCmd : Obligations.NopChangesOnlyCmd := by
  unfold Obligations.NopChangesOnlyCmd
  intro s
  exact ⟨decode_cmd16_encodeCmd .nop, exec_nop s, faultsUnlessWritten_operandRegs .nop s⟩

/-- Settles O32: no effect of an instruction touches the inputs to come or the configuration. -/
theorem everyInstructionCompletes : Obligations.EveryInstructionCompletes := by
  unfold Obligations.EveryInstructionCompletes
  intro i s
  obtain ⟨t, ht⟩ := exists_exec_eq_next i s
  obtain ⟨hconfig, hinbox⟩ := config_and_inbox_eq_of_execEffect (execEffect_of_exec ht)
  exact ⟨t, ht, hinbox, hconfig⟩

/-! ### RD and WR -/

/-- The mask of R24: only ERR and ECODE of STATUS reach the host. -/
theorem statusReadback_eq_and (status : Word) : statusReadback status = status &&& 0x00F2#16 := by
  apply BitVec.eq_of_getLsbD_eq
  intro i hi
  simp only [statusReadback, statusEcode, statusErr, BitVec.getLsbD_and, BitVec.getLsbD_append,
    BitVec.getLsbD_extractLsb', BitVec.getLsbD_ofBool]
  interval_cases i <;> simp

theorem operandRegs_rd_regAddr (r : Reg) : operandRegs (.rd (regAddr r)) = [r] := by simp [operandRegs]

/-- Settles O27: the response is `readReg`, which masks STATUS alone, and a reserved address has no register. -/
theorem readReturnsTheRegister : Obligations.ReadReturnsTheRegister := by
  unfold Obligations.ReadReturnsTheRegister
  intro s
  refine ⟨decodeTxn_encodeRead, fun r => ⟨?_, readReg r s, exec_rdReg r s, ?_⟩, fun addr haddr => ?_⟩
  · have hfaults := faultsUnlessWritten_operandRegs (.rd (regAddr r)) s
    rwa [operandRegs_rd_regAddr] at hfaults
  · cases r with
    | status => exact statusReadback_eq_and s.status
    | _ => rfl
  · rw [exec_rd, busRead_of_reserved haddr, ← recordError_badAddr]
    rfl

/-- Settles O28: `busWrite` at each of the four addresses is the write of its register. -/
theorem writeStoresTheOperandRegisters : Obligations.WriteStoresTheOperandRegisters := by
  unfold Obligations.WriteStoresTheOperandRegisters
  intro s v
  exact ⟨exec_wr 0x2#4 v s, exec_wr 0x3#4 v s, exec_wr 0x4#4 v s, exec_wr 0x5#4 v s⟩

/-! ### The registers no command reads (R254) -/

/-- Every command but NOP, EXPANDKEY and CBCINIT writes RESULT (R30). -/
theorem mem_resultCommands_of_not_mem {c : Command} (hc : c ∉ [Command.nop, .expandkey, .cbcinit]) :
    c ∈ resultCommands := by
  revert hc
  cases c <;> decide

/-- The state with the registers a command only reports to at the given values. -/
def withReported (vCmd vStatus vResult v0 v1 v2 : Word) (s : State) : State :=
  { s with cmd := vCmd, status := vStatus, result := vResult, rk0 := v0, rk1 := v1, rk2 := v2 }

section reported
variable {c : Command} {vCmd vStatus vResult v0 v1 v2 : Word} {s : State}

theorem storeCmd_withReported (v : Word) :
    storeCmd v (withReported vCmd vStatus vResult v0 v1 v2 s) =
      withReported v vStatus vResult v0 v1 v2 (storeCmd v s) := rfl

theorem doCommand_withReported_chain :
    (doCommand c (withReported vCmd vStatus vResult v0 v1 v2 s)).chain = (doCommand c s).chain := by
  cases c <;> rfl

theorem doCommand_withReported_trace :
    (doCommand c (withReported vCmd vStatus vResult v0 v1 v2 s)).trace = (doCommand c s).trace := by
  cases c <;> rfl

theorem doCommand_withReported_result (hc : c ∈ resultCommands) :
    (doCommand c (withReported vCmd vStatus vResult v0 v1 v2 s)).result = (doCommand c s).result := by
  cases c <;> simp [resultCommands] at hc <;> rfl

end reported

/-- Settles O40: CMD and STATUS are what was stored there, and the rest is computed from the other registers. -/
theorem reportedRegistersAreNeverOperands : Obligations.ReportedRegistersAreNeverOperands := by
  unfold Obligations.ReportedRegistersAreNeverOperands
  intro c s vCmd vStatus vResult v0 v1 v2 t u ht hu
  obtain rfl : doCommand c (storeCmd (encodeCmd c) s) = t := Host.Outcome.next.inj ((exec_command c s).symm.trans ht)
  obtain rfl : doCommand c (storeCmd (encodeCmd c) (withReported vCmd vStatus vResult v0 v1 v2 s)) = u :=
    Host.Outcome.next.inj ((exec_command c _).symm.trans hu)
  rw [storeCmd_withReported]
  refine ⟨doCommand_withReported_chain, doCommand_withReported_trace, by simp [withReported],
    by simp [withReported], fun hc => ?_, ?_⟩
  · exact doCommand_withReported_result (mem_resultCommands_of_not_mem hc)
  · rintro rfl
    exact ⟨rfl, rfl, rfl⟩

/-! ### Runs and programs under the fault of R33 -/

/-- A sequence ends in a state exactly when both of its parts do. -/
theorem andThen_eq_next_iff {o : StepResult} {f : State → StepResult} {t : State} :
    andThen o f = .next t ↔ ∃ u : State, o = .next u ∧ f u = .next t := by
  cases o <;> simp

theorem exec_of_checkedExec_eq_next {i : Instr} {s t : State} (h : checkedExec i s = .next t) :
    exec i s = .next t := by
  cases hu : unwrittenOperand i s with
  | some r => simp [checkedExec_of_unwritten hu] at h
  | none => rwa [checkedExec_of_written hu] at h

theorem runInstrs_of_checkedRunInstrs_eq_next {is : List Instr} {s t : State}
    (h : checkedRunInstrs is s = .next t) : runInstrs is s = .next t := by
  induction is generalizing s with
  | nil => exact h
  | cons i is ih =>
    obtain ⟨u, hi, his⟩ := andThen_eq_next_iff.1 h
    rw [runInstrs_cons is (exec_of_checkedExec_eq_next hi), ih his]

/-- A checked instruction does the same whatever inputs are still to come. -/
theorem checkedExec_withInbox (i : Instr) (rest : List HostInput) (s : State) :
    checkedExec i (withInbox rest s) = andThen (checkedExec i s) fun t => .next (withInbox rest t) := by
  have hsame : unwrittenOperand i (withInbox rest s) = unwrittenOperand i s := by simp [unwrittenOperand]
  cases hu : unwrittenOperand i s with
  | some r => rw [checkedExec_of_unwritten hu, checkedExec_of_unwritten (hsame.trans hu), andThen_fault]
  | none =>
    obtain ⟨t, ht⟩ := exists_exec_eq_next i s
    rw [checkedExec_of_written hu, checkedExec_of_written (hsame.trans hu), exec_withInbox rest ht, ht, andThen_next]

/-- The word that issues an instruction decodes to one of the same checked meaning. -/
theorem exists_decodeTxn_txnOfInstr_checked (i : Instr) :
    ∃ j : Instr, decodeTxn (txnOfInstr i) = .ok j ∧ ∀ s : State, checkedExec j s = checkedExec i s := by
  obtain ⟨c, rfl⟩ | ⟨addr, rfl⟩ | ⟨addr, v, rfl⟩ := instr_cases i
  · rw [txnOfInstr_command]
    exact ⟨_, decodeTxn_encodeWrite _ _, checkedExec_wr_encodeCmd c⟩
  · exact ⟨_, decodeTxn_encodeRead addr, fun _ => rfl⟩
  · exact ⟨_, decodeTxn_encodeWrite addr v, fun _ => rfl⟩

theorem checkedStep_of_txnOfInstr {i : Instr} {s : State} {rest : List HostInput}
    (hin : s.inbox = .txn (txnOfInstr i) :: rest) : checkedStep s = checkedExec i (withInbox rest s) := by
  obtain ⟨j, hj, hexec⟩ := exists_decodeTxn_txnOfInstr_checked i
  rw [checkedStep_of_txn hin hj, hexec]

/-- With exactly the words of a program to come, the checked steps are the checked program on the state with nothing to
come. -/
theorem checkedRunSteps_withInbox (is : List Instr) (s : State) :
    checkedRunSteps is.length (withInbox ((is.map txnOfInstr).map HostInput.txn) s) =
      checkedRunInstrs is (withInbox [] s) := by
  induction is generalizing s with
  | nil => rfl
  | cons i is ih =>
    calc checkedRunSteps (is.length + 1) (withInbox (((i :: is).map txnOfInstr).map HostInput.txn) s)
        = andThen (checkedExec i (withInbox ((is.map txnOfInstr).map HostInput.txn) s))
            (checkedRunSteps is.length) := by
          rw [checkedRunSteps, checkedStep_of_txnOfInstr rfl]
          rfl
      _ = andThen (checkedExec i s) fun t => checkedRunInstrs is (withInbox [] t) := by
          simp only [checkedExec_withInbox, andThen_assoc, andThen_next, ih]
      _ = checkedRunInstrs (i :: is) (withInbox [] s) := by
          simp only [checkedRunInstrs, checkedExec_withInbox i [], andThen_assoc, andThen_next]

/-- An instruction that reads a register never written ends the program that has got to it in the fault. -/
theorem checkedRunInstrs_append_of_unwritten {is : List Instr} {i : Instr} {s t : State} (js : List Instr)
    (h : checkedRunInstrs is s = .next t) (hi : ∃ r ∈ operandRegs i, writtenFlag r t = false) :
    ∃ r : Reg, checkedRunInstrs (is ++ i :: js) s = .fault (.unwrittenRead r) := by
  obtain ⟨⟨r⟩, hr⟩ := (checkedExec_faults_iff i t).2 hi
  refine ⟨r, ?_⟩
  rw [checkedRunInstrs_append, h, andThen_next, checkedRunInstrs, hr, andThen_fault]

/-- Settles O45: what goes on from a fault is that fault, and a sent program is the program. -/
theorem faultedRunHasNoFurtherSteps : Obligations.FaultedRunHasNoFurtherSteps := by
  unfold Obligations.FaultedRunHasNoFurtherSteps
  intro s f
  refine ⟨fun n m h => ?_, fun is js h => ?_, fun is hin => ?_, fun is t h => runInstrs_of_checkedRunInstrs_eq_next h,
    fun is js i t h hi => checkedRunInstrs_append_of_unwritten js h hi⟩
  · rw [checkedRunSteps_add, h, andThen_fault]
  · rw [checkedRunInstrs_append, h, andThen_fault]
  · have hidle : withInbox [] s = s := congrArg (withInbox · s) hin.symm
    have hsent : sendScript (is.map txnOfInstr) s = withInbox ((is.map txnOfInstr).map HostInput.txn) s := by
      simp [sendScript, withInbox, hin]
    rw [hsent, checkedRunSteps_withInbox, hidle]

end Sys2Proof.Machine
end

section
/-! ## Errors and the idle core (`60_exceptions.md` R270–R273, R285)

The three misuses of the interface are the only writers of STATUS besides reset, and only the first of them is
recorded. -/

namespace Sys2Proof.Machine

/-! ### Steps that perform no transaction -/

theorem step_of_idle {s : State} (hin : s.inbox = []) : step s = .next s := by simp [step, hin]

theorem step_of_reset {s : State} {rest : List HostInput} (hin : s.inbox = .reset :: rest) :
    step s = .next (resetCore (withInbox rest s)) := by simp [step, hin]

/-- Settles O7: with an empty inbox the step takes its idle branch. -/
theorem idleStepHoldsEverything : Obligations.IdleStepHoldsEverything := by
  unfold Obligations.IdleStepHoldsEverything
  intro s hin
  exact step_of_idle hin

/-! ### The read-only registers -/

/-- RO_WRITE is code 3 (R270), and the first error stays (R271). -/
theorem recordError_roWrite (status : Word) :
    recordError .roWrite status = if status.getLsbD 1 then status else 0x0032#16 := rfl

theorem busWrite_of_readOnly {r : Reg} (hr : r ∈ readOnlyRegs) (v : Word) (s : State) :
    busWrite (regAddr r) v s = raiseError .roWrite s := by
  cases r <;> simp [readOnlyRegs] at hr <;> rfl

/-- Settles O30: the write is the recording of RO_WRITE. -/
theorem readOnlyWriteRecordsRoWrite : Obligations.ReadOnlyWriteRecordsRoWrite := by
  unfold Obligations.ReadOnlyWriteRecordsRoWrite
  intro s v r hr
  rw [exec_wr, busWrite_of_readOnly hr, ← recordError_roWrite]
  rfl

/-! ### STATUS over a program -/

/-- The instruction misuses the interface in the way that has this error code (R270). -/
def misuses (i : Instr) : ErrorCode → Prop
  | .badAddr => ∃ addr : RegAddr, 0xB ≤ addr.toNat ∧ (i = .rd addr ∨ ∃ v, i = .wr addr v)
  | .roWrite => ∃ r ∈ readOnlyRegs, ∃ v, i = .wr (regAddr r) v
  | .illegalCmd => ∃ v : Word, (∀ c : Command, v ≠ encodeCmd c) ∧ i = .wr 0x0#4 v

/-- An instruction leaves STATUS as it is, or is a misuse whose error it records. -/
theorem status_eq_or_recordError_of_exec {i : Instr} {s t : State} (hx : exec i s = .next t) :
    t.status = s.status ∨ ∃ e : ErrorCode, misuses i e ∧ t.status = recordError e s.status := by
  cases execEffect_of_exec hx with
  | illegalCommand v hv => exact .inr ⟨.illegalCmd, ⟨v, hv, rfl⟩, rfl⟩
  | writeReadOnly r hr v => exact .inr ⟨.roWrite, ⟨r, hr, v, rfl⟩, rfl⟩
  | writeReserved addr haddr v => exact .inr ⟨.badAddr, ⟨addr, haddr, .inr ⟨v, rfl⟩⟩, rfl⟩
  | readReserved addr haddr => exact .inr ⟨.badAddr, ⟨addr, haddr, .inl rfl⟩, rfl⟩
  | command c hi => exact .inl (by simp)
  | writeA | writeB | writeKey | writeIv | read => exact .inl rfl

/-- STATUS is as at the start, or no error was recorded at the start and it holds the code of a misuse in the
program. -/
def statusOfFirstMisuse (is : List Instr) (start status : Word) : Prop :=
  status = start ∨ (statusErr start = false ∧ ∃ i ∈ is, ∃ e : ErrorCode, misuses i e ∧ status = statusOfError e)

theorem statusOfFirstMisuse_exec {is : List Instr} {i : Instr} (hi : i ∈ is) {start : Word} {s t : State}
    (hs : statusOfFirstMisuse is start s.status) (hx : exec i s = .next t) :
    statusOfFirstMisuse is start t.status := by
  obtain hsame | ⟨e, he, ht⟩ := status_eq_or_recordError_of_exec hx
  · rwa [hsame]
  cases herr : statusErr s.status with
  | true => rwa [ht, recordError_of_err e herr]
  | false =>
    rw [recordError_of_clear e herr] at ht
    obtain hstart | ⟨-, -, -, e', -, hs'⟩ := hs
    · exact .inr ⟨hstart ▸ herr, i, hi, e, he, ht⟩
    · simp [hs'] at herr

theorem exists_runInstrs_statusOfFirstMisuse (is : List Instr) (s : State) :
    ∃ t : State, runInstrs is s = .next t ∧ statusOfFirstMisuse is s.status t.status :=
  exists_runInstrs_of_invariant (P := fun t => statusOfFirstMisuse is s.status t.status)
    (fun _ hi _ _ hs hx => statusOfFirstMisuse_exec hi hs hx) (.inl rfl)

/-- Settles O33: a change of STATUS is to the code of a misuse in the program and needs ERR clear at the start; the
reset signal then sets STATUS to zero. -/
theorem statusRecordsOnlyTheFirstMisuse : Obligations.StatusRecordsOnlyTheFirstMisuse := by
  unfold Obligations.StatusRecordsOnlyTheFirstMisuse
  intro is s
  obtain ⟨t, hrun, ht⟩ := exists_runInstrs_statusOfFirstMisuse is s
  refine ⟨t, hrun, fun herr => ?_, fun hne => ?_, fun rest => ⟨_, step_of_reset rfl, ?_, ?_⟩⟩
  · obtain hsame | ⟨hclear, -⟩ := ht
    · exact hsame
    · exact absurd (herr.symm.trans hclear) (by decide)
  · obtain ⟨-, i, hi, e, he, hcode⟩ := ht.resolve_left hne
    refine ⟨i, hi, ?_⟩
    cases e with
    | badAddr =>
      obtain ⟨addr, haddr, hacc⟩ := he
      exact .inl ⟨addr, haddr, hacc, hcode⟩
    | roWrite =>
      obtain ⟨r, hr, v, hwr⟩ := he
      exact .inr (.inl ⟨r, hr, v, hwr, hcode⟩)
    | illegalCmd =>
      obtain ⟨v, hv, hwr⟩ := he
      exact .inr (.inr ⟨v, hv, hwr, hcode⟩)
  · simp [statusErr]
  · simp [statusEcode]

end Sys2Proof.Machine
end

section
/-! ## Reset and the round keys after it (`70_reset_and_hazards.md` R300–R312)

`State.reset` is a fixed point of `resetCore`, so one lemma on the registers R300 leaves unspecified serves the reset
signal in mid-run and the state after power-on. -/

namespace Sys2Proof.Machine

open Sys2Proof.Safety

/-! ### The registers R300 leaves unspecified -/

/-- The registers without a specified value after reset (R300). -/
def unspecifiedRegs : List Reg := [.a, .b, .key, .result, .rk0, .rk1, .rk2]

theorem resetCore_reset : resetCore State.reset = State.reset := rfl

theorem writtenFlag_resetCore {r : Reg} (hr : r ∈ unspecifiedRegs) (s : State) :
    writtenFlag r (resetCore s) = false := by
  cases r <;> simp [unspecifiedRegs] at hr <;> rfl

/-- The checked read of a register never written is the fault of R33. -/
theorem checkedExec_rd_of_unwritten {r : Reg} {s : State} (h : writtenFlag r s = false) :
    checkedExec (.rd (regAddr r)) s = .fault (.unwrittenRead r) :=
  checkedExec_of_unwritten (by simp [unwrittenOperand, operandRegs_rd_regAddr, h])

/-! ### The reset signal and the state after reset -/

/-- Settles O8: the step is `resetCore`, which assigns the values and clears the flag of every register R300 leaves
unspecified. -/
theorem resetSetsTheStateOfR300 : Obligations.ResetSetsTheStateOfR300 := by
  unfold Obligations.ResetSetsTheStateOfR300
  intro s rest hin
  exact ⟨_, step_of_reset hin, rfl, rfl, rfl, rfl, rfl, rfl, rfl, rfl, rfl, rfl,
    fun _ hr => checkedExec_rd_of_unwritten (writtenFlag_resetCore hr _)⟩

/-- Settles O9: `resetCore` keeps the three fields, and the step has only taken the reset signal from the inputs. -/
theorem resetKeepsTheConfigurationAndTheHost : Obligations.ResetKeepsTheConfigurationAndTheHost := by
  unfold Obligations.ResetKeepsTheConfigurationAndTheHost
  intro s rest hin
  exact ⟨_, step_of_reset hin, resetCore_config _, resetCore_inbox _, resetCore_responses _⟩

/-- Settles O10: the state after reset is a state `resetCore` sets. -/
theorem resetStateHasTheSpecifiedValues : Obligations.ResetStateHasTheSpecifiedValues := by
  unfold Obligations.ResetStateHasTheSpecifiedValues
  refine ⟨rfl, rfl, rfl, rfl, fun r hr => ?_, rfl⟩
  have hflag : writtenFlag r State.reset = false := resetCore_reset ▸ writtenFlag_resetCore hr State.reset
  exact ⟨hflag, checkedExec_rd_of_unwritten hflag⟩

/-! ### The round keys between two EXPANDKEYs -/

/-- RK0–RK2 as one round key file (R32). -/
def roundKeyFile (s : State) : RoundKeys := { k0 := s.rk0, k1 := s.rk1, k2 := s.rk2 }

/-- Only EXPANDKEY changes the round key file (R32). -/
theorem roundKeyFile_eq_of_not_performs {i : Instr} (hi : ¬ performs i .expandkey) {s t : State}
    (hx : exec i s = .next t) : roundKeyFile t = roundKeyFile s := by
  by_contra hne
  refine hi (writer_of_roundKeys_ne (execEffect_of_exec hx) ?_)
  by_contra hsame
  push Not at hsame
  obtain ⟨h0, h1, h2, -⟩ := hsame
  exact hne (by simp [roundKeyFile, h0, h1, h2])

/-- Settles O36: EXPANDKEY sets the round key file, and every instruction after it keeps it; its first key is KEY. -/
theorem roundKeysStayUntilTheNextExpandkey : Obligations.RoundKeysStayUntilTheNextExpandkey := by
  unfold Obligations.RoundKeysStayUntilTheNextExpandkey
  intro is s his
  obtain ⟨t, hrun, ht⟩ := exists_runInstrs_of_invariant
    (P := fun t => roundKeyFile t = expandKey s.config.sbox s.key)
    (fun i hi _ _ hs hx => (roundKeyFile_eq_of_not_performs (his i hi) hx).trans hs)
    (s := doCommand .expandkey (storeCmd (encodeCmd .expandkey) s)) rfl
  exact ⟨t, (runInstrs_cons is (exec_command .expandkey s)).trans hrun,
    (congrArg RoundKeys.k0 ht).trans (expandKey_k0 _ _), ht⟩

end Sys2Proof.Machine
end
